-- ==== Sys2Proof/Word.lean ====
section
/-! DEFINITION. The word types of the 3204: bytes, register words, times, slots. -/

namespace Sys2Proof

/-- One byte of the buffer memory, of a frame, or of a command word. -/
abbrev Byte := BitVec 8

/-- One 16-bit word of the register window (R181). -/
abbrev Word := BitVec 16

/-- A value of TIME: 32 bits of microseconds, modulo 2^32 (R119). -/
abbrev Time := BitVec 32

/-- A slot index, 0 to 31, which names a station record (1.4.6). -/
abbrev Slot := Fin 32

end Sys2Proof
end

