-- ==== Sys2Proof/Syntax.lean ====
section
/-! DEFINITION. The commands of the 3204: one constructor for each row of spec/opcode_table.json.
The table gives the rows no operands; the operands here are the model's choice (log 13). -/

namespace Sys2Proof

/-- A character as the receiver takes it: eight data bits, the mark bit and the stop bit (R1). -/
structure LineChar where
  data : Byte
  mark : Bool
  stop : Bool
  deriving DecidableEq, Repr

/-- The character the receiver takes from RXD while the part sends one, and how many CLKIN periods
its start-bit transition comes after the sent start bit begins (R143). -/
structure Echo where
  char : LineChar
  delay : Nat
  deriving DecidableEq, Repr

/-- The direction of a change between two successive samples of SYNCIN (R126). -/
inductive SyncEdge where
  | rising
  | falling
  deriving DecidableEq, Repr

/-- The four station configuration registers (R22). -/
inductive StationReg where
  | stnAddr
  | stnOut
  | stnIn
  | stnLimits
  deriving DecidableEq, Repr

/-- The six composer registers (R93). -/
inductive ComposerReg where
  | reqTag
  | reqSlot
  | reqService
  | reqLen
  | reqReplymax
  | reqCtl
  deriving DecidableEq, Repr

/-- The line and cycle configuration registers of R169, but for SYNC_MODE, which has its own row. -/
inductive ConfigReg where
  | lineMode
  | respWin
  | charGap
  | guardTime
  | busyLimit
  | periodLo
  | periodHi
  | reserve
  | syncTol
  | freshLimit
  deriving DecidableEq, Repr

/-- The commands, one constructor for each row of the table, in the table's order. The commands
written to COMMAND carry the argument byte of the word written (R160). -/
inductive Instr where
  | start (arg : Byte)
  | stop (arg : Byte)
  | clearFault (arg : Byte)
  | softReset (arg : Byte)
  | enableStation (arg : Byte)
  | disableStation (arg : Byte)
  | clearCounters (arg : Byte)
  | switchList (arg : Byte)
  | commitOutputs (arg : Byte)
  | takeInputs (arg : Byte)
  | postRequest (arg : Byte)
  | cancelRequest (tag : Byte)
  | popCompletion (arg : Byte)
  | popEvent (arg : Byte)
  | clearEventLoss (arg : Byte)
  | unknownCommand (code : Byte) (arg : Byte)
  | timeLoRead
  | winDataRead
  | winDataWrite (w : Word)
  | winAddrWrite (w : Word)
  | intStatusWrite (w : Word)
  | intEnableWrite (w : Word)
  | stnSelWrite (w : Word)
  | stationConfigWrite (r : StationReg) (w : Word)
  | listSelWrite (w : Word)
  | listEntryWrite (w : Word)
  | listLenWrite (w : Word)
  | composerWrite (r : ComposerReg) (w : Word)
  | lcntSelWrite (w : Word)
  | configRegisterWrite (r : ConfigReg) (w : Word)
  | syncModeWrite (w : Word)
  /-- `a` is A[6:1], the register's byte offset divided by 2 (R181). -/
  | registerWrite (a : BitVec 6) (w : Word)
  | unmappedRegisterRead (a : BitVec 6)
  | resetnLow
  | resetnRelease
  | bufferClearEnd
  | timeTick
  | syncinEdge (e : SyncEdge)
  | rxdCharacterArrival
  | characterCompletion (c : LineChar)
  /-- `e` is what the receiver took for the character just sent: nothing, or a character. -/
  | echoCheck (e : Option Echo)
  | responseWindowExpiry
  | charGapExpiry
  | openingGuardEnd
  | settleEnd
  | closingGuardEnd
  | busyLimitExpiry
  | cycleTimerExpiry
  | syncWindowExpiry
  | syncoutPulseEnd
  /-- `level` is RXD at the middle of the start bit: `true` is 1. -/
  | startBitMiddleSample (level : Bool)
  deriving DecidableEq, Repr

end Sys2Proof
end

