-- ==== Sys2Proof/WellFormed.lean ====
section
/-! DEFINITION. Which commands are well formed: the rows whose operand could name what another row
names. Every meaning is total on the others too (log 10). -/

namespace Sys2Proof

/-- The command codes of Table 8-3. -/
def commandCodes : List Byte :=
  [0x01#8, 0x02#8, 0x03#8, 0x0F#8, 0x10#8, 0x11#8, 0x12#8, 0x20#8, 0x30#8, 0x31#8, 0x40#8, 0x41#8,
    0x42#8, 0x50#8, 0x51#8]

/-- The unmapped register offsets of R182, as A[6:1]: byte offsets 0x2E, 0x48 to 0x4E, 0x58 to 0x5E,
0x6C, 0x6E and 0x74 to 0x7A. -/
def unmappedOffsets : List (BitVec 6) :=
  [0x17#6, 0x24#6, 0x25#6, 0x26#6, 0x27#6, 0x2C#6, 0x2D#6, 0x2E#6, 0x2F#6, 0x36#6, 0x37#6, 0x3A#6,
    0x3B#6, 0x3C#6, 0x3D#6]

/-- The read-only registers of Table 10-1, as A[6:1]. -/
def readOnlyOffsets : List (BitVec 6) :=
  [0x00#6, 0x01#6, 0x03#6, 0x06#6, 0x07#6, 0x08#6, 0x14#6, 0x15#6, 0x16#6, 0x1D#6, 0x1E#6, 0x1F#6,
    0x20#6, 0x21#6, 0x22#6, 0x23#6, 0x2B#6, 0x39#6]

/-- The check of one command: UNKNOWN_COMMAND carries a code that is not in Table 8-3;
REGISTER_WRITE reaches a register without a row of its own; UNMAPPED_REGISTER_READ reaches an
unmapped offset. -/
def Instr.wellFormed : Instr → Bool
  | .unknownCommand code _ => !commandCodes.contains code
  | .registerWrite a _ => unmappedOffsets.contains a || readOnlyOffsets.contains a
  | .unmappedRegisterRead a => unmappedOffsets.contains a
  | .start _ => true
  | .stop _ => true
  | .clearFault _ => true
  | .softReset _ => true
  | .enableStation _ => true
  | .disableStation _ => true
  | .clearCounters _ => true
  | .switchList _ => true
  | .commitOutputs _ => true
  | .takeInputs _ => true
  | .postRequest _ => true
  | .cancelRequest _ => true
  | .popCompletion _ => true
  | .popEvent _ => true
  | .clearEventLoss _ => true
  | .timeLoRead => true
  | .winDataRead => true
  | .winDataWrite _ => true
  | .winAddrWrite _ => true
  | .intStatusWrite _ => true
  | .intEnableWrite _ => true
  | .stnSelWrite _ => true
  | .stationConfigWrite _ _ => true
  | .listSelWrite _ => true
  | .listEntryWrite _ => true
  | .listLenWrite _ => true
  | .composerWrite _ _ => true
  | .lcntSelWrite _ => true
  | .configRegisterWrite _ _ => true
  | .syncModeWrite _ => true
  | .resetnLow => true
  | .resetnRelease => true
  | .bufferClearEnd => true
  | .timeTick => true
  | .syncinEdge _ => true
  | .rxdCharacterArrival => true
  | .characterCompletion _ => true
  | .echoCheck _ => true
  | .responseWindowExpiry => true
  | .charGapExpiry => true
  | .openingGuardEnd => true
  | .settleEnd => true
  | .closingGuardEnd => true
  | .busyLimitExpiry => true
  | .cycleTimerExpiry => true
  | .syncWindowExpiry => true
  | .syncoutPulseEnd => true
  | .startBitMiddleSample _ => true

end Sys2Proof
end

