-- ==== Sys2Proof/Decode.lean ====
section
/-! DEFINITION. Commands by the table's bits. No row of spec/opcode_table.json gives bits (every
"fields" is empty and no row has "fixed"), so no word spells a command. -/

namespace Sys2Proof

/-- The command that the word `w` of `nbits` bits spells by the table's bits: none, since the table
gives no row bits (98, "n_rows_with_fixed": 0). -/
def decodeTableWord (_nbits _w : Nat) : Option Instr := none

end Sys2Proof
end

