-- ==== Sys2Proof/Config.lean ====
section
/-! DEFINITION. What the part fixes, and the one free value of the model. -/

namespace Sys2Proof

/-- IDENT reads 0x3204 outside RESETTING (Table 10-1). -/
def Config.ident : Word := 0x3204#16

/-- The request queue holds at most 8 requests (R96). -/
def Config.requestPlaces : Nat := 8

/-- The completion queue holds at most 8 records, reservations counted (R96). -/
def Config.completionPlaces : Nat := 8

/-- The event queue holds at most 32 records (R172). -/
def Config.eventPlaces : Nat := 32

/-- The buffer memory clear takes 6400 CLKIN periods (R158). -/
def Config.clearClocks : Nat := 6400

/-- CLKIN periods in one microsecond, the prescaler's count (R119). -/
def Config.microClocks : Nat := 32

/-- FREE VALUE (log 4). Which of several expiries of the part's own timers that are due at one
instant is taken first on an empty queue: the spec says "either may be taken first" (R56, R141,
R171) and gives no rule. Applied to the count of free choices taken so far. -/
opaque Config.pickDue : Nat → Nat

end Sys2Proof
end

