-- ==== Sys2Proof/Machine/State.lean ====
section
/-! DEFINITION. The state of the 3204, grouped by the blocks of 1.2, and its values at reset. -/

namespace Sys2Proof.Machine

/-- Bytes by address, in canonical form; an unlisted address reads 0 (R89, R94). -/
abbrev Memory := List Host.Cell

/-! ## Names -/

/-- The five controller states (R156). -/
inductive CtrlState where
  | resetting
  | config
  | running
  | stopping
  | faulted
  deriving DecidableEq, Repr

/-- The Scheduler's phases (Table 3-1). -/
inductive Phase where
  | none
  | awaitFirst
  | sync
  | cyclic
  | acyclic
  | quiet
  deriving DecidableEq, Repr

/-- The sync tracker's states (Table 6-2). -/
inductive TrackerState where
  | internal
  | acquiring
  | locked
  | coasting
  | unlocked
  deriving DecidableEq, Repr

/-- The Line Engine's states (Table 7-1). -/
inductive EngineState where
  | off
  | idle
  | guard
  | transmit
  | awaitReply
  | receive
  | settle
  deriving DecidableEq, Repr

/-- A station's health (Table 2-3). -/
inductive Health where
  | offline
  | seeking
  | active
  | suspect
  | lost
  deriving DecidableEq, Repr

/-- Slot status values (Table 4-4). -/
inductive SlotCode where
  | notCalled
  | fresh
  | notReady
  | missed
  | errored
  deriving DecidableEq, Repr

/-- Outcomes of an acyclic request (Table 5-3). -/
inductive ReqOutcome where
  | done
  | refused
  | oversize
  | noReply
  | expired
  | stationUnavailable
  | cancelled
  | lineFault
  deriving DecidableEq, Repr

/-- Result codes of commands (Table 8-2). -/
inductive ResultCode where
  | accepted
  | wrongState
  | badArgument
  | addressInUse
  | overlap
  | budget
  | pending
  | noNewImage
  | queueFull
  | completionFull
  | empty
  | notFound
  | unknownCommand
  deriving DecidableEq, Repr

/-- Event codes (Table 9-1). -/
inductive EventCode where
  | stationJoined
  | stationSuspect
  | stationLost
  | stationRecovered
  | stationAlarm
  | cycleOverrun
  | lateStart
  | syncMissed
  | syncUnlocked
  | syncLocked
  | listSwitched
  | outputStale
  | outputResumed
  | lineFault
  deriving DecidableEq, Repr

/-- The thirteen line counters (Table 7-5). -/
inductive LineCounter where
  | framesSent
  | repliesGood
  | timeouts
  | formatErrors
  | markErrors
  | gapErrors
  | lengthErrors
  | checkErrors
  | responderErrors
  | sequenceErrors
  | collisions
  | noiseChars
  | strayEdges
  deriving DecidableEq, Repr

/-- The receive error classes (R146, R147). -/
inductive RxError where
  | format
  | mark
  | gap
  | length
  | check
  | responder
  | sequence
  deriving DecidableEq, Repr

/-! ## Records -/

/-- A station record (Table 2-1). -/
structure Station where
  address : BitVec 6
  outLen : BitVec 6 := 0
  outOffset : BitVec 10 := 0
  inLen : BitVec 6 := 0
  inOffset : BitVec 10 := 0
  missLimit : BitVec 4 := 3
  probeInterval : Byte := 16
  enabled : Bool := false
  health : Health := .offline
  consecutiveMiss : BitVec 4 := 0
  toggle : Bool := false
  lastReady : Bool := false
  lastAlarm : Bool := false
  goodReplies : Word := 0
  missed : Word := 0
  errored : Word := 0
  lastReplyTime : Time := 0
  lastReplyCycle : Word := 0
  probeCountdown : Byte := 0
  deriving DecidableEq, Repr

/-- An entry of an exchange list (R45). The fields have the widths of LIST_ENTRY. -/
structure ListEntry where
  slot : Slot := 0
  divisor : BitVec 5 := 1
  phase : BitVec 4 := 0
  deriving DecidableEq, Repr

/-- One exchange list: 64 positions and a length (R45). -/
structure ExchangeList where
  entries : Vector ListEntry 64 := Vector.replicate 64 {}
  len : BitVec 7 := 0
  deriving DecidableEq, Repr

/-- A slot status record (Table 4-4). -/
structure SlotStatus where
  status : SlotCode := .notCalled
  replyLen : Byte := 0
  flags : BitVec 4 := 0
  callCount : Byte := 0
  replyTime : Time := 0
  cycle : Word := 0
  deriving DecidableEq, Repr

/-- A cycle summary (Table 4-5). -/
structure CycleSummary where
  cycle : Word := 0
  startTime : Time := 0
  lateness : Word := 0
  due : Byte := 0
  fresh : Byte := 0
  notReady : Byte := 0
  missed : Byte := 0
  errored : Byte := 0
  skipped : Byte := 0
  syncCollided : Bool := false
  activeList : Bool := false
  endTime : Time := 0
  deriving DecidableEq, Repr

/-- An input bank: 1024 data bytes, 32 slot status records, one cycle summary (R71). -/
structure InBank where
  data : Memory := []
  slots : Vector SlotStatus 32 := Vector.replicate 32 {}
  summary : CycleSummary := {}
  deriving DecidableEq, Repr

/-- The composer's fields (Table 5-1). -/
structure Composer where
  tag : Byte := 0
  slot : Slot := 0
  service : BitVec 7 := 0
  length : BitVec 7 := 0
  replyMax : BitVec 7 := 0
  retryLimit : BitVec 2 := 0
  deadline : Byte := 0
  deriving DecidableEq, Repr

/-- A request of the request queue (R95, R96, R107). `payload` holds the bytes of the request; its
length field is the number of them. -/
structure Request where
  tag : Byte
  slot : Slot
  service : BitVec 7
  payload : List Byte
  replyMax : BitVec 7
  retryLimit : BitVec 2
  deadline : Byte
  postedCycle : Word
  attemptsUsed : BitVec 3 := 0
  inFlight : Bool := false
  cancelRequested : Bool := false
  /-- DISABLE_STATION was taken for the slot during the attempt on the line (R107, R114). -/
  disabledDuring : Bool := false
  deriving DecidableEq, Repr

/-- A completion record (Table 5-3). -/
structure Completion where
  tag : Byte
  outcome : ReqOutcome
  slot : Slot
  attemptsUsed : BitVec 3
  replyLen : Byte := 0
  flags : BitVec 4 := 0
  replyTime : Time
  cycle : Word
  payload : List Byte := []
  deriving DecidableEq, Repr

/-- An event record (R170). -/
structure EventRecord where
  code : EventCode
  slot : Byte
  cycle : Word
  time : Time
  detail : Word
  deriving DecidableEq, Repr

/-- What the Scheduler gives the Line Engine with a piece of work (R137, R63, R103). -/
inductive Work where
  /-- A SYNC frame for the cycle number. -/
  | sync (cycle : Word)
  /-- A CALL: the slot, the address sent, in_len, FIRST, STALE and the payload. -/
  | exchange (slot : Slot) (address : BitVec 6) (inLen : BitVec 6) (first : Bool) (stale : Bool)
      (payload : List Byte)
  /-- A REQUEST: the slot, the address sent, the service code and the payload. -/
  | attempt (slot : Slot) (address : BitVec 6) (service : BitVec 7) (payload : List Byte)
  deriving DecidableEq, Repr

/-- The outcomes a piece can end in (Table 7-2). -/
inductive PieceOutcome where
  | sent
  | good (len : Byte) (flags : BitVec 4) (payload : List Byte)
  | timeout
  | error (c : RxError)
  | collision
  deriving DecidableEq, Repr

/-- A judged outcome with its time (R138). -/
structure Report where
  outcome : PieceOutcome
  time : Time
  deriving DecidableEq, Repr

/-- The piece of work the Line Engine holds (R137): its frame once the header has begun, the toggle
sent, whether DISABLE_STATION has marked its outcome for discard (R33), and its outcome once it is
judged. In GUARD, a piece without an outcome is in its opening guard, one with an outcome in its
closing guard. -/
structure Piece where
  work : Work
  frame : List Byte := []
  toggleSent : Bool := false
  discard : Bool := false
  report : Option Report := none
  deriving DecidableEq, Repr

/-- The receiver inside a character (R1): CLKIN periods since its arrival, what the quiet timer held at the
arrival while no other restart of it has come since (R139, log 9), whether its start bit has been sampled as
0, whether the arrival was taken as a reply's header, and whether it was taken in TRANSMIT, as an echo. -/
structure RxChar where
  elapsed : Nat := 0
  quietBefore : Option Nat
  sampled : Bool := false
  asHeader : Bool := false
  asEcho : Bool := false
  deriving DecidableEq, Repr

/-! ## Blocks -/

/-- The Host Port: command and result registers, selections, window address, time snapshot, and the
word last driven on D[15:0] by a read (log 7). -/
structure HostPort where
  command : Word := 0
  resultCommand : Byte := 0
  resultCode : ResultCode := .accepted
  stnSel : Slot := 0
  listSel : BitVec 6 := 0
  lcntSel : BitVec 4 := 0
  winAddr : BitVec 12 := 0
  timeSnapshot : Word := 0
  dataOut : Option Word := none
  deriving DecidableEq, Repr

/-- The Time Base (Chapter 6). -/
structure TimeBase where
  time : Time := 0
  prescaler : BitVec 5 := 0
  period : BitVec 20 := 10000
  reserve : Word := 100
  external : Bool := false
  falling : Bool := false
  syncTol : Word := 50
  armed : Bool := false
  nextStart : Option Time := none
  tracker : TrackerState := .internal
  missCount : BitVec 2 := 0
  /-- SYNCOUT: low, or high with the CLKIN periods since the pulse began (R132). -/
  syncout : Option Nat := none
  deriving DecidableEq, Repr

/-- The Line Engine (Chapter 7). Timers count CLKIN periods; `none` is a stopped timer. -/
structure LineEngine where
  rateCode : BitVec 3 := 3
  budgetOff : Bool := false
  respWin : Word := 40
  charGap : Word := 4
  guardTime : Word := 11
  busyLimit : Word := 1000
  engine : EngineState := .off
  piece : Option Piece := none
  quiet : Option Nat := none
  busy : Option Nat := none
  window : Option Nat := none
  gap : Option Nat := none
  collisionRun : Nat := 0
  txIndex : Nat := 0
  txElapsed : Nat := 0
  rx : Option RxChar := none
  rxBuf : List Byte := []
  headerTime : Time := 0
  counters : Vector Word 13 := Vector.replicate 13 0
  deriving DecidableEq, Repr

/-- The Exchange Lists (R45): `active` is the number of the ACTIVE list, `true` for list 1. -/
structure Lists where
  list0 : ExchangeList := {}
  list1 : ExchangeList := {}
  active : Bool := false
  pendingSwitch : Bool := false
  deriving DecidableEq, Repr

/-- The Scheduler: controller state, phase, cycle number, the position the walk goes on from, and the
start instant of a held cycle start. -/
structure Scheduler where
  ctrl : CtrlState := .resetting
  phase : Phase := .none
  cycle : Word := 0
  walkPos : Nat := 0
  held : Option Time := none
  deriving DecidableEq, Repr

/-- The Image Store (Chapter 4): banks and the number of the bank that holds each role. -/
structure Images where
  outBanks : Vector Memory 2 := Vector.replicate 2 []
  inBanks : Vector InBank 3 := Vector.replicate 3 {}
  live : Fin 2 := 0
  staged : Fin 2 := 1
  fill : Fin 3 := 0
  ready : Fin 3 := 1
  heldBank : Fin 3 := 2
  commitPending : Bool := false
  inputFresh : Bool := false
  freshCount : Byte := 0
  freshLimit : Byte := 0
  deriving DecidableEq, Repr

/-- The Request Engine (Chapter 5). -/
structure Requests where
  composer : Composer := {}
  payload : Memory := []
  queue : List Request := []
  completions : List Completion := []
  deriving DecidableEq, Repr

/-- The Event Queue and Interrupt Unit (Chapter 9). -/
structure Events where
  queue : List EventRecord := []
  lossCount : Byte := 0
  cycleFlag : Bool := false
  inReadyFlag : Bool := false
  outTakenFlag : Bool := false
  accessFlag : Bool := false
  intEnable : BitVec 7 := 0
  deriving DecidableEq, Repr

/-- Power-on station records: address slot + 1, everything else as the defaults (Table 2-2, R42). -/
def powerOnStations : Vector Station 32 :=
  Vector.ofFn fun i => { address := BitVec.ofNat 6 (i.val + 1) }

/-- The whole state of the 3204. -/
structure State where
  /-- The commands that wait, first in, first out. -/
  pending : List Instr := []
  /-- The MODEL's own: how many free choices have been taken (log 4). -/
  freeCount : Nat := 0
  /-- RESETn is low (R157). -/
  resetLow : Bool := true
  /-- CLKIN periods since the buffer memory clear began, while one is in progress (R158). -/
  clear : Option Nat := none
  port : HostPort := {}
  tb : TimeBase := {}
  line : LineEngine := {}
  stations : Vector Station 32 := powerOnStations
  lists : Lists := {}
  sched : Scheduler := {}
  images : Images := {}
  reqs : Requests := {}
  events : Events := {}
  deriving DecidableEq, Repr

/-- Why a step would stop with a fault: never. Every rule of the spec gives its command an effect, and
the block's own errors are state (FAULTED, RESULT, ACCESS). -/
inductive Fault where
  deriving DecidableEq, Repr

/-- Why a command would have no meaning. -/
inductive Refusal where
  /-- The command's row has no meaning yet. Raised by exec's arms only, and by none of them now. Safe. -/
  | notModelled (mnemonic : String)
  deriving DecidableEq, Repr

/-- The outcome of a step of the 3204. -/
abbrev Out := Host.Outcome State Fault Refusal

/-- Every block at its power-on values while RESETn is low (R157). -/
def State.powerOn : State := {}

/-- The machine right after reset: the instant RESETn is released. The controller state is RESETTING,
TIME begins to count from 0 and the buffer memory clear begins (R157, log 5). -/
def State.reset : State := { State.powerOn with resetLow := false, clear := some 0 }

end Sys2Proof.Machine
end

