-- ==== Sys2Proof/Machine/Ops.lean ====
section
/-! DEFINITION. The shared operations over memory, the station table, the event queue and the host
port, which every meaning is written over. -/

namespace Sys2Proof.Machine

/-! ## Memory -/

/-- The byte at an address; an unlisted address reads 0. -/
def Memory.read : Memory → Nat → Byte
  | [], _ => 0
  | c :: m, a => if c.1 = a then c.2 else Memory.read m a

/-- Write one byte, keeping the canonical form: writing 0 removes the entry. -/
def Memory.write : Memory → Nat → Byte → Memory
  | [], a, v => if v = 0 then [] else [(a, v)]
  | c :: m, a, v =>
    if a < c.1 then (if v = 0 then c :: m else (a, v) :: c :: m)
    else if a = c.1 then (if v = 0 then m else (a, v) :: m)
    else c :: Memory.write m a v

/-- Write bytes at rising addresses from `a`. -/
def Memory.writeAll : Memory → Nat → List Byte → Memory
  | m, _, [] => m
  | m, a, b :: bs => Memory.writeAll (Memory.write m a b) (a + 1) bs

/-- The `n` bytes from address `a` upward, lowest first (R3). -/
def Memory.readMany (m : Memory) (a : Nat) : Nat → List Byte
  | 0 => []
  | n + 1 => Memory.read m a :: Memory.readMany m (a + 1) n

/-- The canonical form: addresses strictly rising, no entry equal to what an unlisted address reads. -/
abbrev Memory.wf (m : Memory) : Prop :=
  List.Pairwise (fun c d => c.1 < d.1) m ∧ ∀ c ∈ m, c.2 ≠ 0

/-! ## Bytes of words -/

/-- Bits 7:0 of a word. -/
def loByte (w : Word) : Byte := w.extractLsb' 0 8

/-- Bits 15:8 of a word. -/
def hiByte (w : Word) : Byte := w.extractLsb' 8 8

/-- The word of two bytes, the low byte first (R184, R186). -/
def wordOf (lo hi : Byte) : Word := hi ++ lo

/-- The low half of a time (R120). -/
def timeLo (t : Time) : Word := t.extractLsb' 0 16

/-- The high half of a time (R120). -/
def timeHi (t : Time) : Word := t.extractLsb' 16 16

/-- A word as two bytes, least significant first (R186). -/
def wordBytes (w : Word) : List Byte := [loByte w, hiByte w]

/-- A time as four bytes, least significant first (R7, R186). -/
def timeBytes (t : Time) : List Byte := wordBytes (timeLo t) ++ wordBytes (timeHi t)

/-- A slot as the byte an event or completion record holds. -/
def slotByte (i : Slot) : Byte := BitVec.ofNat 8 i.val

/-! ## Counting -/

/-- A 16-bit error counter saturates at 65535 (1.4.5). -/
def satIncWord (w : Word) : Word := if w = 0xFFFF#16 then w else w + 1

/-- An 8-bit count saturates at 255 (1.4.5, R76). -/
def satIncByte (b : Byte) : Byte := if b = 0xFF#8 then b else b + 1

/-! ## Station table -/

/-- The record of a slot. -/
def State.station (s : State) (i : Slot) : Station := s.stations[i]

/-- Replace the record of a slot. -/
def State.setStation (s : State) (i : Slot) (r : Station) : State :=
  { s with stations := s.stations.set i r }

/-- Change the record of a slot. -/
def State.modifyStation (s : State) (i : Slot) (f : Station → Station) : State :=
  s.setStation i (f (s.station i))

/-- Change every record of the table in the same way. -/
def State.mapStations (s : State) (f : Station → Station) : State :=
  { s with stations := Vector.ofFn fun i => f s.stations[i] }

/-- All slots, in order. -/
def allSlots : List Slot := List.finRange 32

/-! ## Image store -/

/-- The input bank that holds FILL. -/
def State.fillBank (s : State) : InBank := s.images.inBanks[s.images.fill]

/-- Change the input bank that holds FILL. -/
def State.modifyFill (s : State) (f : InBank → InBank) : State :=
  { s with images.inBanks := s.images.inBanks.set s.images.fill (f s.fillBank) }

/-- Change the cycle summary of the FILL bank. -/
def State.modifySummary (s : State) (f : CycleSummary → CycleSummary) : State :=
  s.modifyFill fun b => { b with summary := f b.summary }

/-- The output bank that holds LIVE. -/
def State.liveBank (s : State) : Memory := s.images.outBanks[s.images.live]

/-- The output bank that holds STAGED. -/
def State.stagedBank (s : State) : Memory := s.images.outBanks[s.images.staged]

/-- The input bank that holds HELD. -/
def State.heldInBank (s : State) : InBank := s.images.inBanks[s.images.heldBank]

/-! ## Exchange lists -/

/-- The ACTIVE list. -/
def Lists.activeList (l : Lists) : ExchangeList := if l.active then l.list1 else l.list0

/-- The SHADOW list. -/
def Lists.shadowList (l : Lists) : ExchangeList := if l.active then l.list0 else l.list1

/-- Replace the SHADOW list. -/
def Lists.setShadow (l : Lists) (x : ExchangeList) : Lists :=
  if l.active then { l with list0 := x } else { l with list1 := x }

/-- The entries that count: positions 0 to length - 1, in order (R45). -/
def ExchangeList.counted (l : ExchangeList) : List ListEntry := l.entries.toList.take l.len.toNat

/-! ## Events and ACCESS -/

/-- A notice reaches the Event Queue: it is stamped with TIME and appended, or lost and counted when
the queue is full (R170, R172). -/
def notify (code : EventCode) (slot : Byte) (cycle detail : Word) (s : State) : State :=
  if s.events.queue.length < Config.eventPlaces then
    { s with events.queue := s.events.queue ++ [⟨code, slot, cycle, s.tb.time, detail⟩] }
  else
    { s with events.lossCount := satIncByte s.events.lossCount }

/-- The ACCESS latched flag is set (R179). -/
def setAccess (s : State) : State := { s with events.accessFlag := true }

/-! ## Host accesses and commands -/

/-- A read is taken: not while RESETn is low (R157); during RESETTING it returns 0 and does nothing
else (R159); otherwise `f` gives the word and the side effects (R181). -/
def hostRead (f : State → Word × State) (s : State) : State :=
  if s.resetLow then s
  else if s.sched.ctrl = .resetting then { s with port.dataOut := some 0 }
  else { (f s).2 with port.dataOut := some (f s).1 }

/-- A write is taken: not while RESETn is low (R157); ignored during RESETTING (R159). -/
def hostWrite (f : State → State) (s : State) : State :=
  if s.resetLow then s
  else if s.sched.ctrl = .resetting then s
  else f s

/-- COMMAND and RESULT take the command word and its answer (R161). -/
def recordResult (code arg : Byte) (r : ResultCode) (s : State) : State :=
  { s with port.command := wordOf code arg, port.resultCommand := code, port.resultCode := r }

/-- A write to COMMAND is taken whole: a refused command changes nothing but RESULT and COMMAND, an
accepted one has its effects as one step (R160, R161). -/
def takeCommand (code arg : Byte) (body : State → Except ResultCode State) (s : State) : State :=
  hostWrite
    (fun s =>
      match body s with
      | .ok t => recordResult code arg .accepted t
      | .error r => recordResult code arg r s)
    s

end Sys2Proof.Machine
end

