-- ==== Sys2Proof/Machine/Durations.lean ====
section
/-! DEFINITION. Bit times, the worst-case durations of R18, and the budget of 3.2. -/

namespace Sys2Proof.Machine

/-- CLKIN periods in one bit time, by rate code (Table 1-2; 32 periods are 1 µs). The codes 6 and 7
give no line rate: START refuses them, so no timer runs at them (R162, log 11). -/
def bitClocks (code : BitVec 3) : Nat :=
  match code.toNat with
  | 0 => 256
  | 1 => 128
  | 2 => 64
  | 3 => 32
  | 4 => 16
  | _ => 8

/-- A duration of so many bit times in CLKIN periods at the programmed rate, with no rounding (R17). -/
def LineEngine.clocks (l : LineEngine) (bits : Nat) : Nat := bits * bitClocks l.rateCode

/-- Bit times converted to microseconds, rounded up (R18). -/
def LineEngine.micros (l : LineEngine) (bits : Nat) : Nat := (l.clocks bits + 31) / 32

/-- Worst case of a sync frame in bit times (R18). -/
def LineEngine.syncBits (l : LineEngine) : Nat := 121 + l.guardTime.toNat

/-- Worst case in bit times of a frame of `o` payload bytes answered by a reply of `i`: a cyclic
exchange, or an acyclic attempt (R18). -/
def LineEngine.pollBits (l : LineEngine) (o i : Nat) : Nat :=
  11 * (o + 5) + l.respWin.toNat + 11 * (i + 5) + (i + 4) * l.charGap.toNat + l.guardTime.toNat

/-- The stored values that the budget needs in range (R30, R49). -/
def State.budgetValuesOk (s : State) : Bool :=
  decide (s.line.rateCode.toNat ≤ 5)
    && decide (8 ≤ s.line.respWin.toNat ∧ s.line.respWin.toNat ≤ 255)
    && decide (1 ≤ s.line.charGap.toNat ∧ s.line.charGap.toNat ≤ 63)
    && decide (2 ≤ s.line.guardTime.toNat ∧ s.line.guardTime.toNat ≤ 63)
    && decide (100 ≤ s.tb.period.toNat ∧ s.tb.period.toNat ≤ 1000000)
    && decide (s.tb.reserve.toNat ≤ 1000)

/-- The stored values that START checks: those of the budget and BUSY_LIMIT (R162). -/
def State.startValuesOk (s : State) : Bool :=
  s.budgetValuesOk && decide (100 ≤ s.line.busyLimit.toNat)

/-- The microseconds one entry counts: its worst case when its slot holds an enabled station or is
the slot being enabled, else nothing (R30, R49). -/
def State.entryMicros (s : State) (enabling : Option Slot) (e : ListEntry) : Nat :=
  let r := s.station e.slot
  if r.enabled || enabling == some e.slot then
    s.line.micros (s.line.pollBits r.outLen.toNat r.inLen.toNat)
  else 0

/-- The sum of a list's terms: the sync frame and every counted entry, each rounded on its own (R49). -/
def State.listMicros (s : State) (enabling : Option Slot) (l : ExchangeList) : Nat :=
  s.line.micros s.line.syncBits + (l.counted.map (s.entryMicros enabling)).sum

/-- SYNC_TOL where external mode allows for it, else 0 (R49, R102). -/
def TimeBase.tolerance (t : TimeBase) : Nat := if t.external then t.syncTol.toNat else 0

/-- A list fits the budget: its sum is at most PERIOD - RESERVE, less SYNC_TOL in external mode; no
list fits while a stored value is out of range (R49). -/
def State.listFits (s : State) (enabling : Option Slot) (l : ExchangeList) : Bool :=
  s.budgetValuesOk
    && decide (s.listMicros enabling l + s.tb.reserve.toNat + s.tb.tolerance ≤ s.tb.period.toNat)

/-- The budget test of a list, skipped when BUDGET_OFF is set (R50). -/
def State.budgetPasses (s : State) (enabling : Option Slot) (l : ExchangeList) : Bool :=
  s.line.budgetOff || s.listFits enabling l

end Sys2Proof.Machine
end

