-- ==== Sys2Proof/Machine/Formats.lean ====
section
/-! DEFINITION. Frame encodings and the check (1.8, 1.9, 10.4), and the record layouts of 10.5. -/

namespace Sys2Proof.Machine

/-! ## The check (R9) -/

/-- One bit of the check: compare with the top bit, shift left, invert positions 12, 5 and 0 when they
differed. -/
def crcBit (c : Word) (b : Bool) : Word :=
  if b = c.msb then c <<< 1 else (c <<< 1) ^^^ 0x1021#16

/-- One byte of the check, most significant bit first. -/
def crcByte (c : Word) (b : Byte) : Word :=
  [7, 6, 5, 4, 3, 2, 1, 0].foldl (fun c k => crcBit c (b.getLsbD k)) c

/-- The check over data bytes, from 0xFFFF, with no final inversion. -/
def crc16 (bs : List Byte) : Word := bs.foldl crcByte 0xFFFF#16

/-! ## Frames (R3 to R7, R185) -/

/-- Kind codes in bits 7:6 of a header (Table 10-6). -/
inductive FrameKind where
  | call
  | reply
  | request
  | sync
  deriving DecidableEq, Repr

/-- The code of a kind (Table 10-6). -/
def FrameKind.code : FrameKind → BitVec 2
  | .call => 0
  | .reply => 1
  | .request => 2
  | .sync => 3

/-- A header byte: address in bits 5:0, kind in bits 7:6 (R185). -/
def headerByte (k : FrameKind) (a : BitVec 6) : Byte := k.code ++ a

/-- The kind field of a received header. -/
def headerKind (h : Byte) : BitVec 2 := h.extractLsb' 6 2

/-- The address field of a received header. -/
def headerAddress (h : Byte) : BitVec 6 := h.extractLsb' 0 6

/-- A CALL's control character: STALE in bit 0, FIRST in bit 1, 0 elsewhere (Table 10-7). -/
def callControl (first stale : Bool) : Byte :=
  0#6 ++ BitVec.ofBool first ++ BitVec.ofBool stale

/-- A REQUEST's control character: the toggle in bit 7, the service code below (Table 10-7). -/
def requestControl (toggle : Bool) (service : BitVec 7) : Byte := BitVec.ofBool toggle ++ service

/-- The four flags of a received REPLY's control character, bits 3:0; bits 7:4 are ignored (R8). -/
def replyFlags (control : Byte) : BitVec 4 := control.extractLsb' 0 4

/-- The toggle echo, bit 0 of the REPLY flags. -/
def flagEcho (f : BitVec 4) : Bool := f.getLsbD 0

/-- READY, bit 1 of the REPLY flags. -/
def flagReady (f : BitVec 4) : Bool := f.getLsbD 1

/-- ALARM, bit 2 of the REPLY flags. -/
def flagAlarm (f : BitVec 4) : Bool := f.getLsbD 2

/-- REFUSED, bit 3 of the REPLY flags. -/
def flagRefused (f : BitVec 4) : Bool := f.getLsbD 3

/-- A frame's data bytes: header, control, length, payload and check, low byte first (Table 1-5, R9). -/
def frameBytes (header control : Byte) (payload : List Byte) : List Byte :=
  let body := header :: control :: BitVec.ofNat 8 payload.length :: payload
  body ++ wordBytes (crc16 body)

/-- The frame of a piece of work, with the toggle the station record holds and the TIME at the start of
its header (R5, R6, R7). -/
def Work.frame (w : Work) (toggle : Bool) (now : Time) : List Byte :=
  match w with
  | .sync cycle => frameBytes (headerByte .sync 0) 0 (wordBytes cycle ++ timeBytes now)
  | .exchange _ address _ first stale payload =>
    frameBytes (headerByte .call address) (callControl first stale) payload
  | .attempt _ address service payload =>
    frameBytes (headerByte .request address) (requestControl toggle service) payload

/-- The bits of a character on TXD in the order they are sent: start bit, data bits least significant
first, mark bit, stop bit (R1, Table 10-5). -/
def charBits (data : Byte) (mark : Bool) : List Bool :=
  false :: [0, 1, 2, 3, 4, 5, 6, 7].map data.getLsbD ++ [mark, true]

/-! ## Record layouts (R186) -/

/-- Status codes (Table 10-8). -/
def SlotCode.code : SlotCode → Byte
  | .notCalled => 0
  | .fresh => 1
  | .notReady => 2
  | .missed => 3
  | .errored => 4

/-- Outcome codes (Table 10-10). -/
def ReqOutcome.code : ReqOutcome → Byte
  | .done => 1
  | .refused => 2
  | .oversize => 3
  | .noReply => 4
  | .expired => 5
  | .stationUnavailable => 6
  | .cancelled => 7
  | .lineFault => 8

/-- Event codes (Table 9-1). -/
def EventCode.code : EventCode → Byte
  | .stationJoined => 0x01
  | .stationSuspect => 0x02
  | .stationLost => 0x03
  | .stationRecovered => 0x04
  | .stationAlarm => 0x05
  | .cycleOverrun => 0x10
  | .lateStart => 0x11
  | .syncMissed => 0x12
  | .syncUnlocked => 0x13
  | .syncLocked => 0x14
  | .listSwitched => 0x15
  | .outputStale => 0x20
  | .outputResumed => 0x21
  | .lineFault => 0x30

/-- The four flags as a byte, with 0 in bits 7:4 (R185). -/
def flagsByte (f : BitVec 4) : Byte := f.zeroExtend 8

/-- A Bool as the byte 0 or 1. -/
def boolByte (b : Bool) : Byte := if b then 1 else 0

/-- The bytes of a slot status record from offset 0; the record's other bytes are 0 (Table 10-8). -/
def SlotStatus.bytes (r : SlotStatus) : List Byte :=
  [r.status.code, r.replyLen, flagsByte r.flags, r.callCount] ++ timeBytes r.replyTime
    ++ wordBytes r.cycle

/-- The bytes of a cycle summary from offset 0; the others are 0 (Table 10-9). -/
def CycleSummary.bytes (r : CycleSummary) : List Byte :=
  wordBytes r.cycle ++ timeBytes r.startTime ++ wordBytes r.lateness
    ++ [r.due, r.fresh, r.notReady, r.missed, r.errored, r.skipped, boolByte r.syncCollided,
        boolByte r.activeList]
    ++ timeBytes r.endTime

/-- The bytes of a completion record's header from offset 0; the others are 0 (Table 10-10). -/
def Completion.headerBytes (r : Completion) : List Byte :=
  [r.tag, r.outcome.code, slotByte r.slot, r.attemptsUsed.zeroExtend 8, r.replyLen,
      flagsByte r.flags]
    ++ wordBytes r.cycle ++ timeBytes r.replyTime

/-- The bytes of an event record from offset 0; the others are 0 (Table 10-11). -/
def EventRecord.bytes (r : EventRecord) : List Byte :=
  [r.code.code, r.slot] ++ wordBytes r.cycle ++ timeBytes r.time ++ wordBytes r.detail

end Sys2Proof.Machine
end

