-- ==== Sys2Proof/Machine/Flags.lean ====
section
/-! DEFINITION. The conditions that follow from State and are stored nowhere: STALE, the interrupt
sources and INTn, the pins DE, TXD and SYNCOUT, and the words of STATE and STN_STATUS. -/

namespace Sys2Proof.Machine

/-- The outputs are STALE exactly when FRESH_LIMIT is not 0 and the freshness count is at least
FRESH_LIMIT (R77). -/
def Images.stale (m : Images) : Bool := m.freshLimit != 0 && m.freshLimit ≤ m.freshCount

/-- The number of requests in flight (R96). -/
def Requests.inFlight (r : Requests) : Nat := r.queue.countP (·.inFlight)

/-- A completion place is free: completion records plus requests in flight are fewer than 8 (R99). -/
def Requests.placeFree (r : Requests) : Bool :=
  r.completions.length + r.inFlight < Config.completionPlaces

/-! ## Interrupts (Table 9-3) -/

/-- INT_STATUS: EVENT, COMPLETION, FAULT, CYCLE, IN_READY, OUT_TAKEN, ACCESS from bit 0 up (R176, R177). -/
def State.intStatus (s : State) : BitVec 7 :=
  BitVec.ofBool s.events.accessFlag ++ BitVec.ofBool s.events.outTakenFlag
    ++ BitVec.ofBool s.events.inReadyFlag ++ BitVec.ofBool s.events.cycleFlag
    ++ BitVec.ofBool (s.sched.ctrl == .faulted) ++ BitVec.ofBool (!s.reqs.completions.isEmpty)
    ++ BitVec.ofBool (!s.events.queue.isEmpty)

/-- INTn is driven low: some source is active or set, and enabled; it is released while RESETn is low
(R157, R178). -/
def State.intnLow (s : State) : Bool := !s.resetLow && (s.intStatus &&& s.events.intEnable) != 0

/-! ## Line and timing pins -/

/-- DE is high in TRANSMIT only (Table 7-1). -/
def State.de (s : State) : Bool := s.line.engine == .transmit

/-- The character at an index of a frame: the mark bit is set on the first and on no other (R3). -/
def frameChar (frame : List Byte) (k : Nat) : LineChar :=
  { data := frame.getD k 0, mark := k == 0, stop := true }

/-- TXD: 1 but in TRANSMIT, where it holds each bit of the character being sent for one bit time; 1
once that character's stop bit has run, until the next begins (R1, R3, R142). -/
def State.txd (s : State) : Bool :=
  match s.line.engine, s.line.piece with
  | .transmit, some p =>
    let bit := s.line.txElapsed / s.line.clocks 1
    let c := frameChar p.frame s.line.txIndex
    if bit / 11 = s.line.txIndex then (charBits c.data c.mark).getD (bit % 11) true else true
  | _, _ => true

/-- SYNCOUT is high while its pulse runs (R132). -/
def State.syncoutHigh (s : State) : Bool := s.tb.syncout.isSome

/-! ## STATE and STN_STATUS -/

/-- Table 10-2, controller state. -/
def CtrlState.code : CtrlState → BitVec 3
  | .resetting => 0
  | .config => 1
  | .running => 2
  | .stopping => 3
  | .faulted => 4

/-- Table 10-2, phase. -/
def Phase.code : Phase → BitVec 3
  | .none => 0
  | .awaitFirst => 1
  | .sync => 2
  | .cyclic => 3
  | .acyclic => 4
  | .quiet => 5

/-- Table 10-2, tracker state. -/
def TrackerState.code : TrackerState → BitVec 3
  | .internal => 0
  | .acquiring => 1
  | .locked => 2
  | .coasting => 3
  | .unlocked => 4

/-- Table 10-3, health. -/
def Health.code : Health → BitVec 3
  | .offline => 0
  | .seeking => 1
  | .active => 2
  | .suspect => 3
  | .lost => 4

/-- Table 8-2. -/
def ResultCode.code : ResultCode → Byte
  | .accepted => 0x00
  | .wrongState => 0x01
  | .badArgument => 0x02
  | .addressInUse => 0x03
  | .overlap => 0x04
  | .budget => 0x05
  | .pending => 0x06
  | .noNewImage => 0x07
  | .queueFull => 0x08
  | .completionFull => 0x09
  | .empty => 0x0A
  | .notFound => 0x0B
  | .unknownCommand => 0x0C

/-- The word of STATE outside RESETTING (R156, Table 10-2). -/
def State.stateWord (s : State) : Word :=
  0#3 ++ BitVec.ofBool s.images.inputFresh ++ BitVec.ofBool s.lists.pendingSwitch
    ++ BitVec.ofBool s.images.commitPending ++ BitVec.ofBool s.images.stale
    ++ s.tb.tracker.code ++ s.sched.phase.code ++ s.sched.ctrl.code

/-- The word of STN_STATUS (Table 10-3). -/
def Station.statusWord (r : Station) : Word :=
  0#5 ++ BitVec.ofBool r.lastAlarm ++ BitVec.ofBool r.lastReady ++ BitVec.ofBool r.toggle
    ++ r.consecutiveMiss ++ r.health.code ++ BitVec.ofBool r.enabled

/-! ## Line counters -/

/-- The number of a line counter (Table 7-5). -/
def LineCounter.index : LineCounter → Fin 13
  | .framesSent => 0
  | .repliesGood => 1
  | .timeouts => 2
  | .formatErrors => 3
  | .markErrors => 4
  | .gapErrors => 5
  | .lengthErrors => 6
  | .checkErrors => 7
  | .responderErrors => 8
  | .sequenceErrors => 9
  | .collisions => 10
  | .noiseChars => 11
  | .strayEdges => 12

/-- FRAMES_SENT and REPLIES_GOOD wrap, the other eleven saturate (R151). -/
def LineCounter.next (c : LineCounter) (w : Word) : Word :=
  match c with
  | .framesSent => w + 1
  | .repliesGood => w + 1
  | .timeouts => satIncWord w
  | .formatErrors => satIncWord w
  | .markErrors => satIncWord w
  | .gapErrors => satIncWord w
  | .lengthErrors => satIncWord w
  | .checkErrors => satIncWord w
  | .responderErrors => satIncWord w
  | .sequenceErrors => satIncWord w
  | .collisions => satIncWord w
  | .noiseChars => satIncWord w
  | .strayEdges => satIncWord w

/-- The counter of a receive error class (R146, R147). -/
def RxError.counter : RxError → LineCounter
  | .format => .formatErrors
  | .mark => .markErrors
  | .gap => .gapErrors
  | .length => .lengthErrors
  | .check => .checkErrors
  | .responder => .responderErrors
  | .sequence => .sequenceErrors

/-- A line counter increments (R151). -/
def countLine (c : LineCounter) (s : State) : State :=
  { s with
    line.counters := s.line.counters.set c.index (c.next s.line.counters[c.index]) }

end Sys2Proof.Machine
end

