-- ==== Sys2Proof/Machine/Stations.lean ====
section
/-! DEFINITION. The Station Table's shared operations (Chapter 2): the checks of ENABLE_STATION, the
application of outcomes, probing, and what START and SOFT_RESET make of the records. -/

namespace Sys2Proof.Machine

/-! ## Checks of ENABLE_STATION -/

/-- The area check: both areas end within the bank (R27). -/
def Station.areasFit (r : Station) : Bool :=
  decide (r.outOffset.toNat + r.outLen.toNat ≤ 1024) && decide (r.inOffset.toNat + r.inLen.toNat ≤ 1024)

/-- Two areas share a byte: each begins before the other ends; an area of length 0 holds no byte (R29). -/
def areasOverlap (a n b m : Nat) : Bool := n != 0 && m != 0 && a < b + m && b < a + n

/-- Two records clash in their out-areas or in their in-areas (R29). -/
def Station.overlaps (r q : Station) : Bool :=
  areasOverlap r.outOffset.toNat r.outLen.toNat q.outOffset.toNat q.outLen.toNat
    || areasOverlap r.inOffset.toNat r.inLen.toNat q.inOffset.toNat q.inLen.toNat

/-- The address check: no other enabled station holds the address (R28). -/
def State.addressFree (s : State) (i : Slot) : Bool :=
  allSlots.all fun j => j == i || !(s.station j).enabled || (s.station j).address != (s.station i).address

/-- The overlap check: no other enabled station's areas share a byte with this one's (R29). -/
def State.areasFree (s : State) (i : Slot) : Bool :=
  allSlots.all fun j => j == i || !(s.station j).enabled || !(s.station i).overlaps (s.station j)

/-- The budget check with the slot counted as enabled: over the ACTIVE list, and over the SHADOW list as
well while a switch is pending (R30). -/
def State.enableBudgetOk (s : State) (i : Slot) : Bool :=
  s.budgetPasses (some i) s.lists.activeList
    && (!s.lists.pendingSwitch || s.budgetPasses (some i) s.lists.shadowList)

/-- The record of a station just enabled (R31). -/
def Station.enable (r : Station) : Station :=
  { r with
    enabled := true, health := .seeking, consecutiveMiss := 0, probeCountdown := 0, toggle := false,
    lastReady := false, lastAlarm := false }

/-- The record of a station just disabled (R32). -/
def Station.disable (r : Station) : Station :=
  { r with enabled := false, health := .offline, consecutiveMiss := 0, probeCountdown := 0 }

/-- The record with its three counters cleared (R34). -/
def Station.clearCounters (r : Station) : Station := { r with goodReplies := 0, missed := 0, errored := 0 }

/-- What START makes of a record (R44). -/
def Station.atStart (r : Station) : Station :=
  if r.enabled then { r with health := .seeking, consecutiveMiss := 0, probeCountdown := 0 } else r

/-- What SOFT_RESET makes of a record: configuration and enabled flag stay (R43). -/
def Station.atSoftReset (r : Station) : Station :=
  { r with
    health := if r.enabled then .seeking else .offline
    consecutiveMiss := 0, probeCountdown := 0, toggle := false, lastReady := false, lastAlarm := false,
    goodReplies := 0, missed := 0, errored := 0, lastReplyTime := 0, lastReplyCycle := 0 }

/-! ## Calling and probing -/

/-- A call to the station carries FIRST (R5, Table 2-3). -/
def Station.callsFirst (r : Station) : Bool := r.health == .seeking || r.health == .lost

/-- An enabled LOST station with countdown 0 is probe-due (R41). -/
def Station.probeDue (r : Station) : Bool := r.enabled && r.health == .lost && r.probeCountdown == 0

/-- A due entry for the station is skipped: disabled, or LOST and not probe-due (R62). -/
def Station.skipped (r : Station) : Bool := !r.enabled || (r.health == .lost && !r.probeDue)

/-- The step of an enabled LOST station's countdown at a taken start (R40). -/
def Station.stepProbe (r : Station) : Station :=
  if r.enabled && r.health == .lost && r.probeCountdown != 0 then
    { r with probeCountdown := r.probeCountdown - 1 }
  else r

/-- At the handover of a probe the countdown is reloaded (R41). -/
def Station.reloadProbe (r : Station) : Station :=
  if r.health == .lost then { r with probeCountdown := r.probeInterval } else r

/-! ## Outcomes -/

/-- A station event: the cycle in which the exchange ran (R39). -/
def notifyStation (code : EventCode) (i : Slot) (detail : Word) (s : State) : State :=
  notify code (slotByte i) s.sched.cycle detail s

/-- The record after a good reply (R35). -/
def Station.afterGood (r : Station) (flags : BitVec 4) (time : Time) (cycle : Word) : Station :=
  { r with
    consecutiveMiss := 0, health := .active, goodReplies := r.goodReplies + 1, lastReplyTime := time,
    lastReplyCycle := cycle, lastReady := flagReady flags, lastAlarm := flagAlarm flags }

/-- The health event of a good reply: STATION_JOINED from SEEKING, STATION_RECOVERED from LOST, none
otherwise (R35). -/
def postGoodHealth (i : Slot) (before : Health) (s : State) : State :=
  match before with
  | .seeking => notifyStation .stationJoined i 0 s
  | .lost => notifyStation .stationRecovered i 0 s
  | .offline => s
  | .active => s
  | .suspect => s

/-- A good reply to a cyclic exchange is applied: the record, the health event, then STATION_ALARM at a
change of ALARM from 0 to 1 (R35, R36). -/
def applyGoodReply (i : Slot) (flags : BitVec 4) (time : Time) (s : State) : State :=
  let r := s.station i
  let t := postGoodHealth i r.health (s.setStation i (r.afterGood flags time s.sched.cycle))
  if flagAlarm flags && !r.lastAlarm then notifyStation .stationAlarm i (flags.zeroExtend 16) t else t

/-- consecutive_miss after a failure (R37). -/
def Station.nextMiss (r : Station) : BitVec 4 :=
  if r.consecutiveMiss = r.missLimit then r.consecutiveMiss else r.consecutiveMiss + 1

/-- The record after a failed exchange, but for a change of health (R24, R37). -/
def Station.afterFailure (r : Station) (timedOut : Bool) : Station :=
  { r with
    consecutiveMiss := r.nextMiss
    missed := if timedOut then satIncWord r.missed else r.missed
    errored := if timedOut then r.errored else satIncWord r.errored }

/-- A failed cyclic exchange is applied: MISSED when it timed out, else ERRORED (R37). -/
def applyFailure (i : Slot) (timedOut : Bool) (s : State) : State :=
  let r := s.station i
  let q := r.afterFailure timedOut
  if r.nextMiss = r.missLimit ∧ r.health ≠ .lost then
    notifyStation .stationLost i 0
      (s.setStation i { q with health := .lost, probeCountdown := r.probeInterval })
  else if r.nextMiss ≠ r.missLimit ∧ r.health = .active then
    notifyStation .stationSuspect i 0 (s.setStation i { q with health := .suspect })
  else s.setStation i q

end Sys2Proof.Machine
end

