-- ==== Sys2Proof/Machine/ImageStore.lean ====
section
/-! DEFINITION. The Image Store's shared operations (Chapter 4): output step, preparation of the FILL
bank, ranking of outcomes, publish, take, and the clear of the buffer memory. -/

namespace Sys2Proof.Machine

/-! ## The output step (4.2.2) -/

/-- A pending commit is applied: STAGED and LIVE exchange roles, the count becomes 0, OUT_TAKEN is set;
OUTPUT_RESUMED if the outputs were STALE (R75). -/
def applyCommit (s : State) : State :=
  let t :=
    { s with
      images.live := s.images.staged, images.staged := s.images.live, images.commitPending := false,
      images.freshCount := 0, events.outTakenFlag := true }
  if s.images.stale then notify .outputResumed 0xFF s.sched.cycle 0 t else t

/-- No commit is pending: the freshness count advances, up to 255; OUTPUT_STALE if this makes the
outputs STALE (R76). -/
def advanceFreshness (s : State) : State :=
  let t := { s with images.freshCount := satIncByte s.images.freshCount }
  if s.images.freshLimit ≠ 0 ∧ s.images.stale = false ∧ t.images.freshCount = s.images.freshLimit then
    notify .outputStale 0xFF s.sched.cycle 0 t
  else t

/-- The output step of a taken cycle start (R75, R76). -/
def outputStep (s : State) : State :=
  if s.images.commitPending then applyCommit s else advanceFreshness s

/-! ## The FILL bank -/

/-- The FILL bank is prepared for the new cycle; its data bytes are not touched (R59). -/
def prepareFill (startTime : Time) (lateness : Word) (s : State) : State :=
  s.modifyFill fun b =>
    { b with
      slots := Vector.replicate 32 { cycle := s.sched.cycle }
      summary :=
        { cycle := s.sched.cycle, startTime := startTime, lateness := lateness,
          activeList := s.lists.active } }

/-- The rank of a status (R65). -/
def SlotCode.rank : SlotCode → Nat
  | .fresh => 3
  | .notReady => 2
  | .missed => 1
  | .errored => 1
  | .notCalled => 0

/-- An outcome overwrites the record: its rank is higher, or FRESH meets FRESH, or NOT_READY meets
NOT_READY (R65). -/
def SlotCode.overwrites (new old : SlotCode) : Bool :=
  decide (old.rank < new.rank) || (new == .fresh && old == .fresh) || (new == .notReady && old == .notReady)

/-- The slot status record after an outcome: the call count always steps, the rest follows the ranking
(R65). -/
def SlotStatus.take (r : SlotStatus) (code : SlotCode) (len : Byte) (flags : BitVec 4) (time : Time)
    (cycle : Word) : SlotStatus :=
  if code.overwrites r.status then
    { status := code, replyLen := len, flags := flags, callCount := r.callCount + 1, replyTime := time,
      cycle := cycle }
  else { r with callCount := r.callCount + 1 }

/-- The counts of the summary after an outcome of a class (R66). -/
def CycleSummary.countClass (m : CycleSummary) (code : SlotCode) : CycleSummary :=
  match code with
  | .fresh => { m with fresh := m.fresh + 1 }
  | .notReady => { m with notReady := m.notReady + 1 }
  | .missed => { m with missed := m.missed + 1 }
  | .errored => { m with errored := m.errored + 1 }
  | .notCalled => m

/-- An outcome is written into the FILL bank: slot status by the ranking, the data of a FRESH reply that
overwrites, and the class count (R65, R66). -/
def writeOutcome (i : Slot) (code : SlotCode) (len : Byte) (flags : BitVec 4) (time : Time)
    (payload : List Byte) (s : State) : State :=
  s.modifyFill fun b =>
    { b with
      data :=
        if code == .fresh && code.overwrites b.slots[i].status then
          Memory.writeAll b.data (s.station i).inOffset.toNat payload
        else b.data
      slots := b.slots.set i (b.slots[i].take code len flags time s.sched.cycle)
      summary := b.summary.countClass code }

/-- A bank cleared: data 0, every slot NOT_CALLED with every field 0, summary 0 (R89). -/
def InBank.cleared : InBank := {}

/-! ## Publish and take -/

/-- The publish: FILL and READY exchange roles, input-fresh and IN_READY are set (R81, R82). -/
def publish (s : State) : State :=
  { s with
    images.fill := s.images.ready, images.ready := s.images.fill, images.inputFresh := true,
    events.inReadyFlag := true }

/-- An accepted TAKE_INPUTS: READY and HELD exchange roles, input-fresh is cleared (R84). -/
def takeReady (s : State) : State :=
  { s with
    images.ready := s.images.heldBank, images.heldBank := s.images.ready, images.inputFresh := false }

/-! ## Resets -/

/-- What SOFT_RESET does to the Image Store at its instant: default roles, whichever bank was filling (R71, R90,
log 21), flags and count cleared; FRESH_LIMIT stays, and the banks are cleared during RESETTING (R90). -/
def Images.atSoftReset (m : Images) : Images :=
  { m with
    live := 0, staged := 1, fill := 0, ready := 1, heldBank := 2, commitPending := false,
    inputFresh := false, freshCount := 0 }

/-- The buffer memory clear: the data of the five banks, the records and summaries of the input banks,
the composer payload (R158, R89, R94). The queues are already empty (R117, R175). -/
def clearBufferMemory (s : State) : State :=
  { s with
    images.outBanks := Vector.replicate 2 [], images.inBanks := Vector.replicate 3 InBank.cleared,
    reqs.payload := [] }

end Sys2Proof.Machine
end

