-- ==== Sys2Proof/Machine/Line.lean ====
section
/-! DEFINITION. The Line Engine's shared operations (Chapter 7): the quiet and busy timers, handover,
the start of a transmission, the ends of a frame and of a reply. -/

namespace Sys2Proof.Machine

/-! ## Timers -/

/-- The quiet timer has counted so many bit times since its last restart, and the receiver is not
inside a character (R139). -/
def LineEngine.quietReached (l : LineEngine) (bits : Nat) : Bool :=
  l.rx.isNone
    && match l.quiet with
      | some q => decide (l.clocks bits ≤ q)
      | none => false

/-- The busy timer has not passed BUSY_LIMIT: at the very instant it reaches it, the quiet timer may
still be taken first (R141). -/
def LineEngine.busyWithin (l : LineEngine) : Bool :=
  match l.busy with
  | some b => decide (b ≤ l.clocks l.busyLimit.toNat)
  | none => true

/-- The busy timer has reached BUSY_LIMIT (R141). -/
def LineEngine.busyReached (l : LineEngine) : Bool :=
  match l.busy with
  | some b => decide (l.clocks l.busyLimit.toNat ≤ b)
  | none => false

/-- The quiet timer restarts for a reason of its own: a discarded transition that came before does not
undo it (R139). -/
def LineEngine.restartQuiet (l : LineEngine) : LineEngine :=
  { l with quiet := some 0, rx := l.rx.map fun c => { c with quietBefore := none } }

/-- The quiet timer restarts (R139). -/
def restartQuiet (s : State) : State := { s with line := s.line.restartQuiet }

/-- The engine enters OFF at once: no piece, no character, every timer stopped (R135, Table 7-6). The
counters and the consecutive-collision count stay. -/
def engineOff (s : State) : State :=
  { s with
    line.engine := .off, line.piece := none, line.quiet := none, line.busy := none,
    line.window := none, line.gap := none, line.rx := none, line.rxBuf := [] }

/-! ## Handover and the start of a frame -/

/-- The start of a CALL's header with FIRST set sets the station's toggle to 0 (R5, R25). -/
def resetFirstToggle (w : Work) (s : State) : State :=
  match w with
  | .exchange slot _ _ true _ _ => s.modifyStation slot fun r => { r with toggle := false }
  | .exchange _ _ _ false _ _ => s
  | .sync _ => s
  | .attempt _ _ _ _ => s

/-- The toggle a REQUEST carries: the one the station record holds as the header begins (R6, R103). -/
def toggleOfWork (w : Work) (s : State) : Bool :=
  match w with
  | .attempt slot _ _ _ => (s.station slot).toggle
  | .exchange _ _ _ _ _ _ => false
  | .sync _ => false

/-- The engine enters TRANSMIT and the header of the piece's frame begins: the frame takes the SYNC
time or the toggle of this instant, a FIRST call resets its station's toggle, the busy timer stops
(R137, R141, R142). -/
def beginTransmit (p : Piece) (s : State) : State :=
  let toggle := toggleOfWork p.work s
  resetFirstToggle p.work
    { s with
      line.engine := .transmit, line.busy := none, line.txIndex := 0, line.txElapsed := 0,
      line.piece := some { p with frame := p.work.frame toggle s.tb.time, toggleSent := toggle } }

/-- The Scheduler hands a piece to the idle engine: the busy timer starts at 0, and the engine
transmits at once when the line has been quiet for GUARD, else waits in the opening guard (R140). -/
def handOver (w : Work) (s : State) : State :=
  if s.line.quietReached s.line.guardTime.toNat then beginTransmit { work := w } s
  else
    { s with line.engine := .guard, line.busy := some 0, line.piece := some { work := w } }

/-! ## The end of a frame or a reply -/

/-- The piece in hand has its outcome (R138). -/
def judge (r : Report) (s : State) : State :=
  { s with line.piece := s.line.piece.map fun p => { p with report := some r } }

/-- Enter SETTLE after a receive error or a collision: quiet and busy timers restart (R139, R141,
R148). -/
def enterSettle (r : Report) (s : State) : State :=
  judge r
    { restartQuiet s with
      line.engine := .settle, line.busy := some 0, line.window := none, line.gap := none,
      line.rxBuf := [] }

/-- Enter the closing guard after a SYNC frame sent, a good reply or a TIMEOUT: quiet and busy timers
restart (R139, R141, R149). -/
def enterClosingGuard (r : Report) (s : State) : State :=
  judge r
    { restartQuiet s with
      line.engine := .guard, line.busy := some 0, line.window := none, line.gap := none,
      line.rxBuf := [] }

/-- A reply ends in a receive error class: its counter increments, the report carries the header's
arrival, and SETTLE follows (R138, R146, R147). -/
def endReplyInError (c : RxError) (s : State) : State :=
  enterSettle ⟨.error c, s.line.headerTime⟩ (countLine c.counter s)

/-- The piece is a SYNC frame, which is not answered (R7). -/
def Work.isSync : Work → Bool
  | .sync _ => true
  | .exchange _ _ _ _ _ _ => false
  | .attempt _ _ _ _ => false

/-- The piece is an acyclic attempt. -/
def Work.isAttempt : Work → Bool
  | .sync _ => false
  | .exchange _ _ _ _ _ _ => false
  | .attempt _ _ _ _ => true

/-- A frame has been sent without collision: FRAMES_SENT increments, the collision run ends, and the
engine closes a SYNC frame or opens the response window (R142, R145). -/
def frameSent (p : Piece) (s : State) : State :=
  let t := countLine .framesSent { s with line.collisionRun := 0 }
  if p.work.isSync then enterClosingGuard ⟨.sent, t.tb.time⟩ t
  else { t with line.engine := .awaitReply, line.window := some 0, line.rxBuf := [] }

/-- TIME as it stood so many CLKIN periods ago (R119, R133). -/
def TimeBase.ago (t : TimeBase) (n : Nat) : Time :=
  t.time - BitVec.ofNat 32 ((n + (Config.microClocks - 1) - t.prescaler.toNat) / Config.microClocks)

/-- An expiry of `s` that is found so many CLKIN periods after its instant: in the state `t` it leads to, the
quiet timer and the busy timer have run since that instant, the quiet timer from a later restart where one
has come (R139, R141, log 16). -/
def datedBack (n : Nat) (s t : State) : State :=
  { t with line.quiet := some (min n (s.line.quiet.getD n)), line.busy := some n }

/-- CLKIN periods that have passed since a timer reached its interval of so many bit times; 0 where it has
not passed it. -/
def LineEngine.pastBy (l : LineEngine) (timer : Option Nat) (bits : Nat) : Nat :=
  timer.getD 0 - l.clocks bits

/-- The response window expires with no arrival: TIMEOUTS increments and the closing guard begins. The time
reported is that of the expiry, and the closing guard is counted from it (R133, R138, R139, R145). -/
def windowExpires (s : State) : State :=
  let n := s.line.pastBy s.line.window s.line.respWin.toNat
  datedBack n s (enterClosingGuard ⟨.timeout, s.tb.ago n⟩ (countLine .timeouts s))

/-- The gap inside a reply runs out: GAP. SETTLE is counted from the expiry (R139, R146). -/
def gapExpires (s : State) : State :=
  datedBack (s.line.pastBy s.line.gap s.line.charGap.toNat) s (endReplyInError .gap s)

/-! ## Receiving -/

/-- The address a reply to the piece must carry (R4). -/
def Work.address : Work → BitVec 6
  | .sync _ => 0
  | .exchange _ a _ _ _ _ => a
  | .attempt _ a _ _ => a

/-- READY and length are one of the two pairings of R13. -/
def pairingOk (inLen : BitVec 6) (len : Byte) (flags : BitVec 4) : Bool :=
  if flagReady flags then len.toNat == inLen.toNat else len == 0

/-- The class of a complete reply, in the order CHECK, RESPONDER, LENGTH, SEQUENCE; a frame that passes
them is good (R147, R10, R4, R13, R14). -/
def classifyReply (p : Piece) (buf : List Byte) : PieceOutcome :=
  let body := buf.take (buf.length - 2)
  let header := buf.getD 0 0
  let flags := replyFlags (buf.getD 1 0)
  let len := buf.getD 2 0
  let good := PieceOutcome.good len flags ((body.drop 3))
  if crc16 body ≠ wordOf (buf.getD (buf.length - 2) 0) (buf.getD (buf.length - 1) 0) then .error .check
  else if headerKind header ≠ FrameKind.reply.code ∨ headerAddress header ≠ p.work.address then
    .error .responder
  else
    match p.work with
    | .exchange _ _ inLen _ _ _ => if pairingOk inLen len flags then good else .error .length
    | .attempt _ _ _ _ => if flagEcho flags = p.toggleSent then good else .error .sequence
    | .sync _ => good

/-- A complete reply is classified: an error class ends it in SETTLE, a good reply counts in
REPLIES_GOOD and its closing guard begins (R147). -/
def completeReply (buf : List Byte) (s : State) : State :=
  match s.line.piece with
  | none => s
  | some p =>
    match classifyReply p buf with
    | .error c => endReplyInError c s
    | o => enterClosingGuard ⟨o, s.line.headerTime⟩ (countLine .repliesGood s)

/-- The characters a reply needs once its length character is in: length + 5 (R3, R146). -/
def replyNeeds (buf : List Byte) : Nat := (buf.getD 2 0).toNat + 5

/-- The first check of R146 that a completed character of a reply fails, if any. -/
def characterFault (buf : List Byte) (c : LineChar) : Option RxError :=
  if !c.stop then some .format
  else if c.mark != buf.isEmpty then some .mark
  else if buf.length = 2 ∧ 120 < c.data.toNat then some .length
  else none

/-- A character of a reply completes: it ends the reply in an error class, or is kept; then the reply is
complete, or the gap to the next arrival is timed (R146). -/
def receiveCharacter (c : LineChar) (s : State) : State :=
  match characterFault s.line.rxBuf c with
  | some e => endReplyInError e s
  | none =>
    let buf := s.line.rxBuf ++ [c.data]
    if 3 ≤ buf.length ∧ buf.length = replyNeeds buf then completeReply buf s
    else { s with line.rxBuf := buf, line.gap := some 0, line.window := none }

end Sys2Proof.Machine
end

