-- ==== Sys2Proof/Machine/RequestEngine.lean ====
section
/-! DEFINITION. The Request Engine's shared operations (Chapter 5): placing a completion, admission, the
start of an attempt and its outcome, cancelling. -/

namespace Sys2Proof.Machine

/-! ## Completions -/

/-- The completion record of a request, where no reply is kept (R108). -/
def Request.completion (r : Request) (o : ReqOutcome) (time : Time) (cycle : Word) : Completion :=
  { tag := r.tag, outcome := o, slot := r.slot, attemptsUsed := r.attemptsUsed, replyTime := time,
    cycle := cycle }

/-- A completion record is placed at the tail of the completion queue (R109). -/
def placeCompletion (c : Completion) (s : State) : State :=
  { s with reqs.completions := s.reqs.completions ++ [c] }

/-- The head request completes: it leaves the queue and its record is placed, in one step (R109). -/
def completeHead (c : Completion) (s : State) : State :=
  placeCompletion c { s with reqs.queue := s.reqs.queue.tail }

/-- The head request is replaced by its changed self. -/
def replaceHead (r : Request) (s : State) : State :=
  { s with reqs.queue := r :: s.reqs.queue.tail }

/-- The request in flight: only the head can be (R97). -/
def State.requestInFlight (s : State) : Option Request :=
  match s.reqs.queue with
  | [] => none
  | r :: _ => if r.inFlight then some r else none

/-! ## Admission (5.3) -/

/-- The head passes the completion-place test: it holds a reservation, or a place is free (R99). -/
def placeTest (r : Request) (s : State) : Bool := r.inFlight || s.reqs.placeFree

/-- The head passes the station test: its station is enabled and not LOST (R100). -/
def stationTest (r : Request) (s : State) : Bool :=
  (s.station r.slot).enabled && (s.station r.slot).health != .lost

/-- The head passes the deadline test (R101). -/
def deadlineTest (r : Request) (s : State) : Bool :=
  r.deadline == 0 || decide ((s.sched.cycle - r.postedCycle).toNat < r.deadline.toNat)

/-- The worst case of the head's attempt in microseconds (R18, R102). -/
def Request.worstMicros (r : Request) (l : LineEngine) : Nat :=
  l.micros (l.pollBits r.payload.length r.replyMax.toNat)

/-- TIME lies in the window of the expected start, both ends included (R102, R128). -/
def TimeBase.inWindow (t : TimeBase) (expected now : Time) : Bool :=
  decide ((now - (expected - t.syncTol.zeroExtend 32)).toNat ≤ 2 * t.syncTol.toNat)

/-- The head passes the time test: its worst case and RESERVE, with SYNC_TOL in external mode, fit
before the next expected start, and in external mode the start's window has not opened (R102). An edge that
comes later in the same instant and is accepted in UNLOCKED is no expected start (log 17). -/
def timeTest (r : Request) (s : State) : Bool :=
  match s.tb.nextStart with
  | none => false
  | some e =>
    decide (r.worstMicros s.line + s.tb.reserve.toNat + s.tb.tolerance ≤ (e - s.tb.time).toNat)
      && !(s.tb.external && s.tb.inWindow e s.tb.time)

/-- The head's attempt is started: in flight with a reservation, attempts used steps, and the REQUEST is
handed to the Line Engine with the address the record holds now; the phase is ACYCLIC (R103, R68). -/
def startAttempt (r : Request) (s : State) : State :=
  handOver (.attempt r.slot (s.station r.slot).address r.service r.payload)
    (replaceHead { r with inFlight := true, attemptsUsed := r.attemptsUsed + 1, disabledDuring := false }
      { s with sched.phase := .acyclic })

/-- Admission for the heads of the queue, at most `n` of them: a head completes at once, is started, or
waits; when none is started the phase becomes QUIET (R98, R68). -/
def admitHeads : Nat → State → State
  | 0, s => { s with sched.phase := .quiet }
  | n + 1, s =>
    match s.reqs.queue with
    | [] => { s with sched.phase := .quiet }
    | r :: _ =>
      if !placeTest r s then { s with sched.phase := .quiet }
      else if !stationTest r s then
        admitHeads n (completeHead (r.completion .stationUnavailable s.tb.time s.sched.cycle) s)
      else if !deadlineTest r s then
        admitHeads n (completeHead (r.completion .expired s.tb.time s.sched.cycle) s)
      else if !timeTest r s then { s with sched.phase := .quiet }
      else startAttempt r s

/-- Admission (R98): each head is examined once, so the length of the queue bounds it. -/
def admission (s : State) : State := admitHeads s.reqs.queue.length s

/-- Admission after an accepted POST_REQUEST, CANCEL_REQUEST or POP_COMPLETION: in RUNNING with the
phase QUIET only (R68). -/
def quietAdmission (s : State) : State :=
  if s.sched.ctrl = .running ∧ s.sched.phase = .quiet then admission s else s

/-! ## Outcomes of attempts (5.4) -/

/-- The outcome a good reply completes the request with (R105). -/
def goodOutcome (r : Request) (len : Byte) (flags : BitVec 4) : ReqOutcome :=
  if flagRefused flags then .refused else if r.replyMax.toNat < len.toNat then .oversize else .done

/-- A good reply completes the request: the toggle of the record is inverted, and the payload is kept
when its length is at most reply_max (R105). -/
def applyAttemptGood (r : Request) (len : Byte) (flags : BitVec 4) (payload : List Byte) (time : Time)
    (s : State) : State :=
  completeHead
    { r.completion (goodOutcome r len flags) time s.sched.cycle with
      replyLen := len, flags := flags
      payload := if len.toNat ≤ r.replyMax.toNat then payload else [] }
    (s.modifyStation r.slot fun q => { q with toggle := !q.toggle })

/-- A failure of the attempt is applied by the first line of Table 5-2 that fits (R106, R107). -/
def applyAttemptFailure (r : Request) (time : Time) (s : State) : State :=
  if r.cancelRequested then completeHead (r.completion .cancelled time s.sched.cycle) s
  else if r.disabledDuring then completeHead (r.completion .stationUnavailable time s.sched.cycle) s
  else if r.attemptsUsed.toNat < r.retryLimit.toNat + 1 then
    replaceHead { r with disabledDuring := false } s
  else completeHead (r.completion .noReply time s.sched.cycle) s

/-- The Request Engine applies the outcome of the attempt to the request in flight (R104). -/
def applyAttempt (rep : Report) (s : State) : State :=
  match s.requestInFlight with
  | none => s
  | some r =>
    match rep.outcome with
    | .good len flags payload => applyAttemptGood r len flags payload rep.time s
    | .sent => s
    | .timeout => applyAttemptFailure r rep.time s
    | .error _ => applyAttemptFailure r rep.time s
    | .collision => applyAttemptFailure r rep.time s

/-- A line fault completes the request in flight LINE_FAULT, into its reservation (R116). -/
def failInFlight (s : State) : State :=
  match s.requestInFlight with
  | none => s
  | some r => completeHead (r.completion .lineFault s.tb.time s.sched.cycle) s

/-! ## Commands on the queue -/

/-- An attempt is on the line: the engine holds it (R55). -/
def State.attemptOnLine (s : State) : Bool :=
  match s.line.piece with
  | some p => p.work.isAttempt
  | none => false

/-- The request POST_REQUEST makes from the composer (R95). -/
def State.composedRequest (s : State) : Request :=
  let c := s.reqs.composer
  { tag := c.tag, slot := c.slot, service := c.service
    payload := Memory.readMany s.reqs.payload 0 c.length.toNat
    replyMax := c.replyMax, retryLimit := c.retryLimit, deadline := c.deadline
    postedCycle := s.sched.cycle }

/-- The oldest request that holds the tag and is not in flight, with the queue without it (R111, R113). -/
def withdraw (tag : Byte) : List Request → Option (Request × List Request)
  | [] => none
  | r :: rs =>
    if r.tag = tag ∧ r.inFlight = false then some (r, rs)
    else (withdraw tag rs).map fun p => (p.1, r :: p.2)

/-- CANCEL_REQUEST finds the request in flight first, if it holds the tag and is not yet marked (R111). -/
def cancelFindsInFlight (tag : Byte) (s : State) : Option Request :=
  s.requestInFlight.filter fun r => r.tag == tag && !r.cancelRequested

/-- CANCEL_REQUEST of the request in flight: marked while its attempt is on the line, completed
CANCELLED at once between attempts (R112). -/
def cancelInFlight (r : Request) (s : State) : State :=
  if s.attemptOnLine then replaceHead { r with cancelRequested := true } s
  else completeHead (r.completion .cancelled s.tb.time s.sched.cycle) s

/-- DISABLE_STATION marks the request whose attempt for the slot is on the line (R107, R114). -/
def markDisabled (i : Slot) (s : State) : State :=
  match s.requestInFlight with
  | none => s
  | some r =>
    if s.attemptOnLine ∧ r.slot = i then replaceHead { r with disabledDuring := true } s else s

end Sys2Proof.Machine
end

