-- ==== Sys2Proof/Machine/Cycle.lean ====
section
/-! DEFINITION. The Scheduler's shared operations (Chapter 3) and the line fault (R153, R166): the
answer to a cycle start, the work at a taken start, the walk, the report of a piece, the end of
draining. -/

namespace Sys2Proof.Machine

/-! ## Line fault and end of draining -/

/-- The two causes of a line fault, the detail of LINE_FAULT (R153). -/
inductive FaultCause where
  | busy
  | collision
  deriving DecidableEq, Repr

/-- The detail of LINE_FAULT: 1 for BUSY, 2 for COLLISION (Table 9-1). -/
def FaultCause.detail : FaultCause → Word
  | .busy => 1
  | .collision => 2

/-- The Line Engine declares a line fault: it goes OFF, posts LINE_FAULT; the request in flight
completes LINE_FAULT, the phase becomes NONE, the state FAULTED, the Time Base is disarmed and a held
start discarded (R153, R166, R70, R116). -/
def lineFault (c : FaultCause) (s : State) : State :=
  let t := failInFlight (notify .lineFault 0xFF s.sched.cycle c.detail (engineOff s))
  { t with sched.ctrl := .faulted, sched.phase := .none, sched.held := none, tb.armed := false }

/-- The draining ends: engine OFF, phase NONE, state CONFIG, Time Base disarmed (R165, R154, R69). -/
def drainEnd (s : State) : State :=
  { engineOff s with sched.ctrl := .config, sched.phase := .none, tb.armed := false }

/-! ## The work at a taken cycle start (R58) -/

/-- Step 1: in AWAIT_FIRST the number stays 0, else it increments (R54). -/
def setCycleNumber (s : State) : State :=
  if s.sched.phase = .awaitFirst then s else { s with sched.cycle := s.sched.cycle + 1 }

/-- Step 2: a held start posts LATE_START with its lateness (R57). -/
def postLate (late : Option Word) (s : State) : State :=
  match late with
  | some d => notify .lateStart 0xFF s.sched.cycle d s
  | none => s

/-- Step 3: a pending switch is applied with LIST_SWITCHED (R52). -/
def applySwitch (s : State) : State :=
  if s.lists.pendingSwitch then
    notify .listSwitched 0xFF s.sched.cycle (if s.lists.active then 0 else 1)
      { s with lists.active := !s.lists.active, lists.pendingSwitch := false }
  else s

/-- Step 6: the countdowns of LOST stations are stepped (R40). -/
def stepProbes (s : State) : State := s.mapStations Station.stepProbe

/-- Step 7: the phase becomes SYNC and the sync frame is handed over; the take sets CYCLE and begins the
SYNCOUT pulse (R55, R60, R132). -/
def sendSync (s : State) : State :=
  handOver (.sync s.sched.cycle)
    { s with sched.phase := .sync, events.cycleFlag := true, tb.syncout := some 0 }

/-- A cycle start is taken: `late` is the lateness of a held start (R57, R58). -/
def takeStart (startTime : Time) (late : Option Word) (s : State) : State :=
  sendSync <| stepProbes <| prepareFill startTime (late.getD 0) <| outputStep <| applySwitch <|
    postLate late <| setCycleNumber s

/-- The lateness of a held start: microseconds since its start instant, saturating at 65535 (R57). -/
def lateness (startTime now : Time) : Word :=
  if (now - startTime).toNat < 65536 then (now - startTime).setWidth 16 else 0xFFFF#16

/-- A held start is taken (R57). -/
def takeHeld (startTime : Time) (s : State) : State :=
  takeStart startTime (some (lateness startTime s.tb.time)) { s with sched.held := none }

/-- A refused start posts CYCLE_OVERRUN for the cycle in progress (R56). -/
def refuseStart (s : State) : State := notify .cycleOverrun 0xFF s.sched.cycle 0 s

/-- The answer to a cycle start in phase ACYCLIC: held while an attempt is on the line and none is held,
refused when one is held, taken when no attempt is on the line (Table 3-2). -/
def answerAcyclic (startTime : Time) (s : State) : State :=
  if s.attemptOnLine then
    match s.sched.held with
    | none => { s with sched.held := some startTime }
    | some _ => refuseStart s
  else takeStart startTime none s

/-- The Scheduler answers a delivered cycle start (R55, Table 3-2). -/
def answerStart (startTime : Time) (s : State) : State :=
  match s.sched.ctrl with
  | .running =>
    match s.sched.phase with
    | .awaitFirst => takeStart startTime none s
    | .sync => refuseStart s
    | .cyclic => refuseStart s
    | .acyclic => answerAcyclic startTime s
    | .quiet => takeStart startTime none s
    | .none => s
  | .stopping => s
  | .config => s
  | .faulted => s
  | .resetting => s

/-! ## The walk (3.8) -/

/-- An entry is due in cycle n when n modulo its divisor equals its phase (R61). -/
def ListEntry.due (e : ListEntry) (cycle : Word) : Bool :=
  cycle.toNat % e.divisor.toNat == e.phase.toNat

/-- The CALL for a station: address, in_len, FIRST by health, STALE by the outputs, and out_len bytes of
the LIVE bank, none when STALE (R63, R5). -/
def State.callWork (s : State) (i : Slot) : Work :=
  let r := s.station i
  .exchange i r.address r.inLen r.callsFirst s.images.stale
    (if s.images.stale then [] else Memory.readMany s.liveBank r.outOffset.toNat r.outLen.toNat)

/-- A due entry is called: the walk will go on after it, a probe reloads its countdown, and the CALL is
handed over (R63, R41). -/
def callEntry (i : Slot) (pos : Nat) (s : State) : State :=
  handOver (s.callWork i)
    (({ s with sched.walkPos := pos + 1 } : State).modifyStation i Station.reloadProbe)

/-- The walk ends: cyclic end time, publish, phase ACYCLIC, admission (R67). -/
def endWalk (s : State) : State :=
  let t := publish (s.modifySummary fun m => { m with endTime := s.tb.time })
  admission { t with sched.phase := .acyclic }

/-- The walk visits the entries from a position on: those not due are passed over, skipped ones are
counted, the first called one holds the walk (R61, R62). -/
def walk : List ListEntry → Nat → State → State
  | [], _, s => endWalk s
  | e :: es, pos, s =>
    if !e.due s.sched.cycle then walk es (pos + 1) s
    else if (s.station e.slot).skipped then
      walk es (pos + 1) (s.modifySummary fun m => { m with due := m.due + 1, skipped := m.skipped + 1 })
    else callEntry e.slot pos (s.modifySummary fun m => { m with due := m.due + 1 })

/-- The walk goes on from a position of the ACTIVE list (R61). -/
def walkFrom (pos : Nat) (s : State) : State := walk (s.lists.activeList.counted.drop pos) pos s

/-! ## Reports (R138) -/

/-- The outcome of an exchange that is not discarded is applied to the FILL bank, the summary and the
station record as one step (R64, R65, R66). -/
def applyExchange (i : Slot) (rep : Report) (s : State) : State :=
  match rep.outcome with
  | .good len flags payload =>
    applyGoodReply i flags rep.time
      (writeOutcome i (if flagReady flags then .fresh else .notReady) len flags rep.time payload s)
  | .timeout => applyFailure i true (writeOutcome i .missed 0 0 rep.time [] s)
  | .error _ => applyFailure i false (writeOutcome i .errored 0 0 rep.time [] s)
  | .collision => applyFailure i false (writeOutcome i .errored 0 0 rep.time [] s)
  | .sent => s

/-- The report of a sync frame: a collision sets the sync-collided flag of the FILL bank's summary
(R60). -/
def applySyncReport (rep : Report) (s : State) : State :=
  if rep.outcome = .collision then s.modifySummary fun m => { m with syncCollided := true } else s

/-- The receiving block applies a report; the outcome of a discarded exchange is dropped (R33, R60, R64,
R104). -/
def applyReport (p : Piece) (rep : Report) (s : State) : State :=
  match p.work with
  | .sync _ => applySyncReport rep s
  | .exchange i _ _ _ _ _ => if p.discard then s else applyExchange i rep s
  | .attempt _ _ _ _ => applyAttempt rep s

/-- After an attempt's outcome a held start is taken, else admission is made (R57, R68). -/
def afterAttempt (s : State) : State :=
  match s.sched.held with
  | some t => takeHeld t s
  | none => admission s

/-- What the Scheduler does once a report has been applied in RUNNING: the walk begins after a sync
frame, goes on after an exchange; an attempt's end takes a held start or makes admission (R60, R61,
R68). -/
def proceed (w : Work) (s : State) : State :=
  match w with
  | .sync _ => walkFrom 0 { s with sched.phase := .cyclic }
  | .exchange _ _ _ _ _ _ => walkFrom s.sched.walkPos s
  | .attempt _ _ _ _ => afterAttempt s

/-- The engine reports the piece and enters IDLE; the report is applied; in STOPPING the draining then
ends (R138, R149, R165). A next piece is handed over in the same step, so an arrival that comes later in the
instant meets the state it leaves (log 20). -/
def reportPiece (p : Piece) (rep : Report) (s : State) : State :=
  let t :=
    applyReport p rep { s with line.engine := .idle, line.piece := none, line.busy := none }
  if t.sched.ctrl = .stopping then drainEnd t else proceed p.work t

end Sys2Proof.Machine
end

