-- ==== Sys2Proof/Machine/TimeKeeping.lean ====
section
/-! DEFINITION. The Time Base's shared operations (Chapter 6): the passing of CLKIN periods, delivery of
cycle starts, the sync tracker. -/

namespace Sys2Proof.Machine

/-! ## The passing of time -/

/-- A running timer after so many CLKIN periods; a stopped one stays stopped. -/
def runTimer (n : Nat) (t : Option Nat) : Option Nat := t.map (· + n)

/-- The timers of the Line Engine after so many CLKIN periods (R17). -/
def LineEngine.pass (n : Nat) (l : LineEngine) : LineEngine :=
  { l with
    quiet := runTimer n l.quiet, busy := runTimer n l.busy, window := runTimer n l.window
    gap := runTimer n l.gap, txElapsed := l.txElapsed + n
    rx := l.rx.map fun c => { c with elapsed := c.elapsed + n } }

/-- So many CLKIN periods pass for every timer but TIME and its prescaler. -/
def passClocks (n : Nat) (s : State) : State :=
  { s with
    clear := runTimer n s.clear, line := s.line.pass n, tb.syncout := runTimer n s.tb.syncout }

/-- The prescaler's count ends: TIME increments, modulo 2^32, and the prescaler begins again (R119). -/
def tickTime (s : State) : State := { s with tb.time := s.tb.time + 1, tb.prescaler := 0 }

/-- The rest of the current microsecond passes: the prescaler completes its 32 CLKIN periods (R119).
While RESETn is low TIME and the prescaler are held at 0 (R157). -/
def passMicrosecond (s : State) : State :=
  if s.resetLow then s
  else tickTime (passClocks (Config.microClocks - s.tb.prescaler.toNat) s)

/-- One CLKIN period passes; the 32nd of a count steps TIME (R119, log 2). -/
def passClock (s : State) : State :=
  if s.resetLow then s
  else if s.tb.prescaler = 31 then tickTime (passClocks 1 s)
  else { passClocks 1 s with tb.prescaler := s.tb.prescaler + 1 }

/-- TIME has reached an instant, compared modulo 2^32 (R119). -/
def timeReached (now target : Time) : Bool := decide ((now - target).toNat < 2147483648)

/-! ## Delivery (R123 to R125) -/

/-- The distance of two grid starts as a time. -/
def TimeBase.periodTime (t : TimeBase) : Time := t.period.zeroExtend 32

/-- A cycle start is delivered: the next expected start is set in the same step, before the Scheduler
answers (R125). -/
def deliverStart (startTime next : Time) (s : State) : State :=
  answerStart startTime { s with tb.nextStart := some next }

/-- START arms the Time Base: the internal grid is laid, or the tracker enters ACQUIRING with no
expected start (R123). -/
def armTimeBase (s : State) : State :=
  if s.tb.external then
    { s with
      tb.armed := true, tb.nextStart := none, tb.tracker := .acquiring, tb.missCount := 0 }
  else
    { s with
      tb.armed := true, tb.nextStart := some (s.tb.time + s.tb.periodTime), tb.tracker := .internal,
      tb.missCount := 0 }

/-- The cycle timer expires: armed, internal mode, TIME has reached the next expected start (R124). -/
def State.cycleTimerDue (s : State) : Bool :=
  s.tb.armed && !s.tb.external
    && match s.tb.nextStart with
      | some e => timeReached s.tb.time e
      | none => false

/-- At the expiry a start at the expected instant is delivered and the grid advances by PERIOD (R124). -/
def cycleTimerExpires (s : State) : State :=
  match s.tb.nextStart with
  | some e => deliverStart e (e + s.tb.periodTime) s
  | none => s

/-! ## The sync tracker (6.4) -/

/-- A sync notice: slot 0xFF, the cycle number held, detail 0 (R127, R129). -/
def notifySync (c : EventCode) (s : State) : State := notify c 0xFF s.sched.cycle 0 s

/-- An edge is accepted: LOCKED, miss count 0, a start at the edge, the grid laid on it (R127, R128,
R131). -/
def acceptEdge (s : State) : State :=
  deliverStart s.tb.time (s.tb.time + s.tb.periodTime)
    { s with tb.tracker := .locked, tb.missCount := 0 }

/-- A qualifying edge within the window of the expected start is accepted; another is a stray (R128). -/
def examineEdge (s : State) : State :=
  match s.tb.nextStart with
  | some e => if s.tb.inWindow e s.tb.time then acceptEdge s else countLine .strayEdges s
  | none => countLine .strayEdges s

/-- The tracker examines a qualifying edge against its state (R126 to R128, R131). -/
def trackEdge (s : State) : State :=
  match s.tb.tracker with
  | .acquiring => acceptEdge (notifySync .syncLocked s)
  | .unlocked => acceptEdge (notifySync .syncLocked s)
  | .locked => examineEdge s
  | .coasting => examineEdge s
  | .internal => s

/-- The edge is one SYNC_MODE selects (R126). -/
def TimeBase.qualifies (t : TimeBase) (e : SyncEdge) : Bool :=
  match e with
  | .rising => !t.falling
  | .falling => t.falling

/-- The window of the expected start runs out: armed, external mode, a tracker with an expected start,
TIME has reached the expected start plus SYNC_TOL (R129, R131). -/
def State.syncWindowDue (s : State) : Bool :=
  s.tb.armed && s.tb.external
    && (s.tb.tracker == .locked || s.tb.tracker == .coasting || s.tb.tracker == .unlocked)
    && match s.tb.nextStart with
      | some e => timeReached s.tb.time (e + s.tb.syncTol.zeroExtend 32)
      | none => false

/-- A miss is counted: SYNC_MISSED, and at the third SYNC_UNLOCKED after it; in UNLOCKED nothing (R129,
R131). -/
def countMiss (s : State) : State :=
  if s.tb.tracker = .unlocked then s
  else if s.tb.missCount = 2 then
    notifySync .syncUnlocked (notifySync .syncMissed
      { s with tb.missCount := 3, tb.tracker := .unlocked })
  else
    notifySync .syncMissed
      { s with tb.missCount := s.tb.missCount + 1, tb.tracker := .coasting }

/-- A start is generated at the expected start plus SYNC_TOL; the grid keeps its phase (R129, R131). -/
def generateStart (s : State) : State :=
  match s.tb.nextStart with
  | some e => deliverStart (e + s.tb.syncTol.zeroExtend 32) (e + s.tb.periodTime) (countMiss s)
  | none => s

/-- The tracker's state for a stored mode when it is set afresh (R122, R134). -/
def trackerForMode (external : Bool) : TrackerState := if external then .acquiring else .internal

/-- What SOFT_RESET does to the Time Base: disarmed, tracker by the stored mode, miss count 0, no
expected start; TIME, the configuration and a SYNCOUT pulse in progress stay (R134, Table 6-4). -/
def TimeBase.atSoftReset (t : TimeBase) : TimeBase :=
  { t with
    armed := false, nextStart := none, tracker := trackerForMode t.external, missCount := 0 }

end Sys2Proof.Machine
end

