-- ==== Sys2Proof/Machine/ClockEvents.lean ====
section
/-! DEFINITION. The rows of reset, clock and cycle timing (Chapters 6 and 8). A row that cannot come in
the present state changes nothing (log 1). -/

namespace Sys2Proof.Machine

/-- RESETN_LOW: every block is held at its power-on values (R157). The queue of waiting commands and the
count of free choices are no part of the 3204. -/
def execResetnLow (s : State) : Out :=
  .next { State.powerOn with pending := s.pending, freeCount := s.freeCount }

/-- RESETN_RELEASE: the controller state is RESETTING, TIME begins to count and the buffer memory clear
begins (R157). -/
def execResetnRelease (s : State) : Out :=
  .next (if s.resetLow then { s with resetLow := false, clear := some 0 } else s)

/-- The buffer memory clear has run for its 6400 CLKIN periods (R158). -/
def State.clearDue (s : State) : Bool :=
  s.sched.ctrl == .resetting
    && match s.clear with
      | some n => decide (Config.clearClocks ≤ n)
      | none => false

/-- The clear completes: the memory is cleared and the controller state becomes CONFIG (R158). -/
def clearEnds (s : State) : State :=
  { clearBufferMemory s with clear := none, sched.ctrl := .config }

/-- BUFFER_CLEAR_END (R158). -/
def execBufferClearEnd (s : State) : Out := .next (if s.clearDue then clearEnds s else s)

/-- TIME_TICK (R119). -/
def execTimeTick (s : State) : Out := .next (passMicrosecond s)

/-- SYNCIN_EDGE: examined while the Time Base is armed in external mode, when its direction is the one
selected (R126). -/
def execSyncinEdge (e : SyncEdge) (s : State) : Out :=
  .next (if s.tb.armed && s.tb.external && s.tb.qualifies e then trackEdge s else s)

/-- CYCLE_TIMER_EXPIRY (R124). -/
def execCycleTimerExpiry (s : State) : Out := .next (if s.cycleTimerDue then cycleTimerExpires s else s)

/-- SYNC_WINDOW_EXPIRY (R129, R131). -/
def execSyncWindowExpiry (s : State) : Out := .next (if s.syncWindowDue then generateStart s else s)

/-- The SYNCOUT pulse has lasted its 1 µs (R132). -/
def State.pulseDue (s : State) : Bool :=
  match s.tb.syncout with
  | some n => decide (Config.microClocks ≤ n)
  | none => false

/-- SYNCOUT_PULSE_END (R132). -/
def execSyncoutPulseEnd (s : State) : Out :=
  .next (if s.pulseDue then { s with tb.syncout := none } else s)

end Sys2Proof.Machine
end

