-- ==== Sys2Proof/Machine/LineEvents.lean ====
section
/-! DEFINITION. The rows of the line: characters, echoes and the expiries of the Line Engine's timers
(Chapter 7). A row that cannot come in the present state changes nothing (log 1). -/

namespace Sys2Proof.Machine

/-! ## RXD_CHARACTER_ARRIVAL -/

/-- A response window or a gap that has already run out is taken before a later arrival (R11, R12). -/
def expireOverdue (s : State) : State :=
  match s.line.engine with
  | .awaitReply =>
    match s.line.window with
    | some w => if s.line.clocks s.line.respWin.toNat < w then windowExpires s else s
    | none => s
  | .receive =>
    match s.line.gap with
    | some g => if s.line.clocks s.line.charGap.toNat < g then gapExpires s else s
    | none => s
  | .off => s
  | .idle => s
  | .guard => s
  | .transmit => s
  | .settle => s

/-- The arrival is taken: the receiver is inside a character and the quiet timer restarts; in
AWAIT_REPLY the character becomes the reply's header and its arrival is kept (R139, R145). In TRANSMIT it is
an echo, also at the instant a report has let the next frame begin (R140, log 20). -/
def takeArrival (s : State) : State :=
  let t : State :=
    { s with
      line.quiet := some 0
      line.rx :=
        some
          { quietBefore := s.line.quiet, asHeader := s.line.engine == .awaitReply,
            asEcho := s.line.engine == .transmit } }
  if s.line.engine = .awaitReply then
    { t with line.engine := .receive, line.headerTime := s.tb.time, line.rxBuf := [] }
  else t

/-- The receiver listens for a start bit: it is not stopped and not inside a character (R1, R135). -/
def State.listening (s : State) : Bool := s.line.engine != .off && s.line.rx.isNone

/-- RXD_CHARACTER_ARRIVAL (R145, R139, R1). -/
def execRxdCharacterArrival (s : State) : Out :=
  .next (if s.listening then takeArrival (expireOverdue s) else s)

/-! ## START_BIT_MIDDLE_SAMPLE -/

/-- The transition is discarded: no character begins, a header's arrival is undone, and the restart of the
quiet timer at the transition is undone, unless another restart has come since (R1, R139, log 9). -/
def discardArrival (c : RxChar) (s : State) : State :=
  { s with
    line.rx := none
    line.engine := if c.asHeader && s.line.engine == .receive then .awaitReply else s.line.engine
    line.quiet :=
      match c.quietBefore with
      | some q => some (q + c.elapsed)
      | none => s.line.quiet }

/-- The character the receiver is inside whose start bit may be sampled now: half a bit time has passed
since its arrival and it has not been sampled yet (R1). -/
def State.toSample (s : State) : Option RxChar :=
  s.line.rx.filter fun c => !c.sampled && decide (s.line.clocks 1 ≤ 2 * c.elapsed)

/-- START_BIT_MIDDLE_SAMPLE: 1 discards the transition, 0 lets the character go on (R1). -/
def execStartBitMiddleSample (level : Bool) (s : State) : Out :=
  .next
    (match s.toSample with
    | none => s
    | some c =>
      if level then discardArrival c s else { s with line.rx := some { c with sampled := true } })

/-! ## CHARACTER_COMPLETION -/

/-- What a completed character does by engine state: in RECEIVE it belongs to the reply, in IDLE and GUARD
it is unsolicited, in SETTLE, TRANSMIT and AWAIT_REPLY it is not counted (R146, R148, R150). An echo that
completes after its frame's end is none of them (log 8). -/
def characterEnds (r : RxChar) (c : LineChar) (s : State) : State :=
  if r.asEcho then s
  else
    match s.line.engine with
    | .receive => receiveCharacter c s
    | .idle => countLine .noiseChars s
    | .guard => countLine .noiseChars s
    | .settle => s
    | .transmit => s
    | .awaitReply => s
    | .off => s

/-- The character the receiver is inside, once its 11 bit times have passed (R1). Whether its start bit has
been sampled is not asked: a row that brings the character says that it was 0 (log 18). -/
def State.toComplete (s : State) : Option RxChar :=
  s.line.rx.filter fun c => decide (s.line.clocks 11 ≤ c.elapsed)

/-- CHARACTER_COMPLETION: the receiver leaves the character and the quiet timer restarts (R1, R139, R146,
R147, R148, R150). -/
def execCharacterCompletion (c : LineChar) (s : State) : Out :=
  .next
    (match s.toComplete with
    | none => s
    | some r => characterEnds r c { s with line.rx := none, line.quiet := some 0 })

/-! ## ECHO_CHECK -/

/-- The echo belongs to the sent character, its start bit no later than half a bit time after the sent
one's, and equals it in data, mark and stop bit (R143). -/
def echoMatches (l : LineEngine) (sent : LineChar) (e : Option Echo) : Bool :=
  match e with
  | none => false
  | some x => decide (2 * x.delay ≤ l.clocks 1) && x.char == sent

/-- A collision: counted; the third in a row is a line fault, else DE goes low and SETTLE follows (R143,
R144). -/
def collide (s : State) : State :=
  let t := countLine .collisions { s with line.collisionRun := s.line.collisionRun + 1 }
  if 3 ≤ t.line.collisionRun then lineFault .collision t
  else enterSettle ⟨.collision, t.tb.time⟩ t

/-- The character matched its echo: the next one follows, or the frame is sent (R142, R143). -/
def characterSent (p : Piece) (s : State) : State :=
  if p.frame.length ≤ s.line.txIndex + 1 then frameSent p s
  else { s with line.txIndex := s.line.txIndex + 1 }

/-- The piece whose current character has been sent to the end of its stop bit (R142, R143). -/
def State.sentPiece (s : State) : Option Piece :=
  if s.line.engine = .transmit ∧ s.line.clocks (11 * (s.line.txIndex + 1)) ≤ s.line.txElapsed then
    s.line.piece
  else none

/-- ECHO_CHECK (R143, R142). -/
def execEchoCheck (e : Option Echo) (s : State) : Out :=
  .next
    (match s.sentPiece with
    | none => s
    | some p =>
      let t := if e.isSome then restartQuiet s else s
      if echoMatches s.line (frameChar p.frame s.line.txIndex) e then characterSent p t else collide t)

/-! ## Expiries -/

/-- The response window has run out with no arrival (R11, R145). One that runs out between a transition and
the sample that discards it is found at the sample, and dated back to its own instant (R1, R133, log 16). -/
def State.windowDue (s : State) : Bool :=
  s.line.engine == .awaitReply
    && match s.line.window with
      | some w => decide (s.line.clocks s.line.respWin.toNat ≤ w)
      | none => false

/-- RESPONSE_WINDOW_EXPIRY (R145). -/
def execResponseWindowExpiry (s : State) : Out := .next (if s.windowDue then windowExpires s else s)

/-- The gap has run out with no arrival (R12, R146). One that runs out between a transition and the sample that
discards it is found at the sample, and dated back to its own instant (R1, log 16). -/
def State.gapDue (s : State) : Bool :=
  s.line.engine == .receive && s.line.rx.isNone
    && match s.line.gap with
      | some g => decide (s.line.clocks s.line.charGap.toNat ≤ g)
      | none => false

/-- CHAR_GAP_EXPIRY (R146). -/
def execCharGapExpiry (s : State) : Out := .next (if s.gapDue then gapExpires s else s)

/-- A piece in its opening guard whose line has been quiet for GUARD (R140, R141). -/
def State.openingPiece (s : State) : Option Piece :=
  if s.line.engine = .guard ∧ s.line.quietReached s.line.guardTime.toNat ∧ s.line.busyWithin then
    s.line.piece.filter fun p => p.report.isNone
  else none

/-- OPENING_GUARD_END (R140). -/
def execOpeningGuardEnd (s : State) : Out :=
  .next
    (match s.openingPiece with
    | some p => beginTransmit p s
    | none => s)

/-- SETTLE has seen CHAR_GAP + 11 quiet bit times (R148). -/
def State.settleDue (s : State) : Bool :=
  s.line.engine == .settle && s.line.quietReached (s.line.charGap.toNat + 11) && s.line.busyWithin

/-- The closing guard begins; the busy timer runs on, also where it has just reached BUSY_LIMIT (R141, R148,
R149, log 19). -/
def settleEnds (s : State) : State := { restartQuiet s with line.engine := .guard }

/-- SETTLE_END (R148). -/
def execSettleEnd (s : State) : Out := .next (if s.settleDue then settleEnds s else s)

/-- A judged piece in its closing guard whose line has been quiet for GUARD, with its report (R149). -/
def State.closingPiece (s : State) : Option (Piece × Report) :=
  if s.line.engine = .guard ∧ s.line.quietReached s.line.guardTime.toNat ∧ s.line.busyWithin then
    s.line.piece.bind fun p => p.report.map fun rep => (p, rep)
  else none

/-- CLOSING_GUARD_END (R149, R138). -/
def execClosingGuardEnd (s : State) : Out :=
  .next
    (match s.closingPiece with
    | some (p, rep) => reportPiece p rep s
    | none => s)

/-- The engine waits for a quiet line and the busy timer has reached BUSY_LIMIT (R141). -/
def State.busyDue (s : State) : Bool :=
  (s.line.engine == .guard || s.line.engine == .settle) && s.line.busyReached

/-- BUSY_LIMIT_EXPIRY (R141, R153). -/
def execBusyLimitExpiry (s : State) : Out := .next (if s.busyDue then lineFault .busy s else s)

end Sys2Proof.Machine
end

