-- ==== Sys2Proof/Machine/ControllerCommands.lean ====
section
/-! DEFINITION. The commands START, STOP, CLEAR_FAULT and SOFT_RESET (Chapter 8). -/

namespace Sys2Proof.Machine

/-- A command not taken in the present controller state is refused WRONG_STATE (R160). -/
def whenState (ok : CtrlState → Bool) (body : State → Except ResultCode State) (s : State) :
    Except ResultCode State :=
  if ok s.sched.ctrl then body s else .error .wrongState

/-! ## START (R162, R163) -/

/-- The list that will be ACTIVE once a pending switch has been applied (R162). -/
def State.upcomingList (s : State) : ExchangeList :=
  if s.lists.pendingSwitch then s.lists.shadowList else s.lists.activeList

/-- The effects of an accepted START, in the order of R163. -/
def startRun (s : State) : State :=
  let a :=
    { s with
      sched.cycle := 0
      reqs.queue := s.reqs.queue.map fun r => { r with postedCycle := 0 } }
  let b := (applySwitch a).mapStations Station.atStart
  armTimeBase
    { b with
      line.engine := .idle, line.quiet := some 0, line.collisionRun := 0,
      sched.phase := .awaitFirst, sched.ctrl := .running }

/-- START's checks and effects (R162, R163). -/
def startBody : State → Except ResultCode State :=
  whenState (· == .config) fun s =>
    if !s.startValuesOk then .error .badArgument
    else if !s.budgetPasses none s.upcomingList then .error .budget
    else .ok (startRun s)

/-- START (R162, R163). -/
def execStart (arg : Byte) (s : State) : Out := .next (takeCommand 0x01 arg startBody s)

/-! ## STOP (R164, R165) -/

/-- The effects of an accepted STOP: STOPPING, a held start discarded; with no piece in hand the
draining ends at once (R164, R165). -/
def stopRun (s : State) : State :=
  let t : State := { s with sched.ctrl := .stopping, sched.held := none }
  if t.line.piece.isNone then drainEnd t else t

/-- STOP's check and effects (R164). -/
def stopBody : State → Except ResultCode State :=
  whenState (· == .running) fun s => .ok (stopRun s)

/-- STOP (R164, R165). -/
def execStop (arg : Byte) (s : State) : Out := .next (takeCommand 0x02 arg stopBody s)

/-! ## CLEAR_FAULT (R167) -/

/-- CLEAR_FAULT's check and effect: CONFIG, and nothing else (R167). -/
def clearFaultBody : State → Except ResultCode State :=
  whenState (· == .faulted) fun s => .ok { s with sched.ctrl := .config }

/-- CLEAR_FAULT (R167). -/
def execClearFault (arg : Byte) (s : State) : Out := .next (takeCommand 0x03 arg clearFaultBody s)

/-! ## SOFT_RESET (R168) -/

/-- What SOFT_RESET does to the Line Engine: OFF at once, counters and collision run 0; the
configuration stays (R155). -/
def resetLine (s : State) : State :=
  { engineOff s with line.counters := Vector.replicate 13 0, line.collisionRun := 0 }

/-- The effects of SOFT_RESET as one step: every block resets its state, the controller state becomes
RESETTING and the buffer memory clear begins (R168). -/
def softResetRun (s : State) : State :=
  let t := (resetLine s).mapStations Station.atSoftReset
  { t with
    tb := t.tb.atSoftReset
    lists.pendingSwitch := false
    sched := {}
    images := t.images.atSoftReset
    reqs.composer := {}, reqs.queue := [], reqs.completions := []
    events.queue := [], events.lossCount := 0, events.cycleFlag := false
    events.inReadyFlag := false, events.outTakenFlag := false, events.accessFlag := false
    clear := some 0 }

/-- SOFT_RESET is refused in no state in which it is taken (R168). -/
def softResetBody (s : State) : Except ResultCode State := .ok (softResetRun s)

/-- SOFT_RESET (R168). -/
def execSoftReset (arg : Byte) (s : State) : Out := .next (takeCommand 0x0F arg softResetBody s)

end Sys2Proof.Machine
end

