-- ==== Sys2Proof/Machine/ImageCommands.lean ====
section
/-! DEFINITION. The commands SWITCH_LIST, COMMIT_OUTPUTS and TAKE_INPUTS (3.3, 4.2, 4.3). -/

namespace Sys2Proof.Machine

/-- SWITCH_LIST's checks in the order of R51; in CONFIG and FAULTED the lists exchange roles at once and
no event is posted, in RUNNING the switch becomes pending (R51). -/
def switchListBody : State → Except ResultCode State :=
  whenState (· != .stopping) fun s =>
    if s.lists.pendingSwitch then .error .pending
    else if !s.budgetPasses none s.lists.shadowList then .error .budget
    else if s.sched.ctrl = .running then .ok { s with lists.pendingSwitch := true }
    else .ok { s with lists.active := !s.lists.active }

/-- SWITCH_LIST (R51). -/
def execSwitchList (arg : Byte) (s : State) : Out := .next (takeCommand 0x20 arg switchListBody s)

/-- COMMIT_OUTPUTS: refused in FAULTED, refused PENDING while a commit is pending, else the
commit-pending flag is set (R74). -/
def commitOutputsBody : State → Except ResultCode State :=
  whenState (· != .faulted) fun s =>
    if s.images.commitPending then .error .pending
    else .ok { s with images.commitPending := true }

/-- COMMIT_OUTPUTS (R74). -/
def execCommitOutputs (arg : Byte) (s : State) : Out := .next (takeCommand 0x30 arg commitOutputsBody s)

/-- TAKE_INPUTS: the take when input-fresh is set, else NO_NEW_IMAGE (R84). -/
def takeInputsBody (s : State) : Except ResultCode State :=
  if s.images.inputFresh then .ok (takeReady s) else .error .noNewImage

/-- TAKE_INPUTS (R84). -/
def execTakeInputs (arg : Byte) (s : State) : Out := .next (takeCommand 0x31 arg takeInputsBody s)

end Sys2Proof.Machine
end

