-- ==== Sys2Proof/Machine/QueueCommands.lean ====
section
/-! DEFINITION. The commands POST_REQUEST, CANCEL_REQUEST, POP_COMPLETION (Chapter 5), POP_EVENT and
CLEAR_EVENT_LOSS (9.2). -/

namespace Sys2Proof.Machine

/-- POST_REQUEST: refused QUEUE_FULL with 8 requests queued, else the composer is copied to the tail, and
in QUIET admission is made (R95). -/
def postRequestBody (s : State) : Except ResultCode State :=
  if Config.requestPlaces ≤ s.reqs.queue.length then .error .queueFull
  else .ok (quietAdmission { s with reqs.queue := s.reqs.queue ++ [s.composedRequest] })

/-- POST_REQUEST (R95). -/
def execPostRequest (arg : Byte) (s : State) : Out := .next (takeCommand 0x40 arg postRequestBody s)

/-- A queued request is withdrawn: it leaves its position and its CANCELLED record is placed (R113). -/
def withdrawQueued (r : Request) (rest : List Request) (s : State) : State :=
  placeCompletion (r.completion .cancelled s.tb.time s.sched.cycle) { s with reqs.queue := rest }

/-- CANCEL_REQUEST: the request in flight first, else the oldest queued one with the tag, else NOT_FOUND;
accepted in QUIET, admission is made (R111, R112, R113). -/
def cancelRequestBody (tag : Byte) (s : State) : Except ResultCode State :=
  match cancelFindsInFlight tag s with
  | some r => .ok (quietAdmission (cancelInFlight r s))
  | none =>
    match withdraw tag s.reqs.queue with
    | none => .error .notFound
    | some (r, rest) =>
      if s.reqs.placeFree then .ok (quietAdmission (withdrawQueued r rest s))
      else .error .completionFull

/-- CANCEL_REQUEST (R111). -/
def execCancelRequest (tag : Byte) (s : State) : Out :=
  .next (takeCommand 0x41 tag (cancelRequestBody tag) s)

/-- POP_COMPLETION: the head record is removed, refused EMPTY when there is none; in QUIET admission is
made (R110). -/
def popCompletionBody (s : State) : Except ResultCode State :=
  match s.reqs.completions with
  | [] => .error .empty
  | _ :: cs => .ok (quietAdmission { s with reqs.completions := cs })

/-- POP_COMPLETION (R110). -/
def execPopCompletion (arg : Byte) (s : State) : Out :=
  .next (takeCommand 0x42 arg popCompletionBody s)

/-- POP_EVENT: the head record is removed, refused EMPTY when there is none (R174). -/
def popEventBody (s : State) : Except ResultCode State :=
  match s.events.queue with
  | [] => .error .empty
  | _ :: es => .ok { s with events.queue := es }

/-- POP_EVENT (R174). -/
def execPopEvent (arg : Byte) (s : State) : Out := .next (takeCommand 0x50 arg popEventBody s)

/-- CLEAR_EVENT_LOSS: the loss count becomes 0 (R174). -/
def clearEventLossBody (s : State) : Except ResultCode State :=
  .ok { s with events.lossCount := 0 }

/-- CLEAR_EVENT_LOSS (R174). -/
def execClearEventLoss (arg : Byte) (s : State) : Out :=
  .next (takeCommand 0x51 arg clearEventLossBody s)

end Sys2Proof.Machine
end

