-- ==== Sys2Proof/Machine/Operands.lean ====
section
/-! DEFINITION. What a written word means for each register: its fields when every field is in range
and every position outside the fields is 0, else nothing (R182). -/

namespace Sys2Proof.Machine

/-- A slot named by an argument byte, if it is 0 to 31 (R26, R32, R34). -/
def slotOfArg (arg : Byte) : Option Slot :=
  if h : arg.toNat < 32 then some ⟨arg.toNat, h⟩ else none

/-- A slot in bits 4:0 of a word whose other bits are 0 (STN_SEL, REQ_SLOT). -/
def slotOfWord (w : Word) : Option Slot :=
  if h : w.toNat < 32 then some ⟨w.toNat, h⟩ else none

/-- STN_ADDR: address 1 to 63 in bits 5:0 (R22). -/
def addressOfWord (w : Word) : Option (BitVec 6) :=
  if 1 ≤ w.toNat ∧ w.toNat ≤ 63 then some (w.extractLsb' 0 6) else none

/-- STN_OUT and STN_IN: a length 0 to 32 in bits 15:10, an offset in bits 9:0 (R22). -/
def areaOfWord (w : Word) : Option (BitVec 6 × BitVec 10) :=
  if (w.extractLsb' 10 6).toNat ≤ 32 then some (w.extractLsb' 10 6, w.extractLsb' 0 10) else none

/-- STN_LIMITS: miss_limit 1 to 15 in bits 3:0, probe_interval 1 to 255 in bits 15:8 (R22). -/
def limitsOfWord (w : Word) : Option (BitVec 4 × Byte) :=
  if w.extractLsb' 4 4 = 0 ∧ w.extractLsb' 0 4 ≠ 0 ∧ w.extractLsb' 8 8 ≠ 0 then
    some (w.extractLsb' 0 4, w.extractLsb' 8 8)
  else none

/-- LIST_SEL: a position 0 to 63 (R46). -/
def positionOfWord (w : Word) : Option (BitVec 6) :=
  if w.toNat < 64 then some (w.extractLsb' 0 6) else none

/-- LIST_ENTRY: slot in bits 4:0, divisor 1 to 16 in bits 9:5, phase below the divisor in bits 13:10
(R47). -/
def entryOfWord (w : Word) : Option ListEntry :=
  let divisor := w.extractLsb' 5 5
  let phase := w.extractLsb' 10 4
  if w.extractLsb' 14 2 = 0 ∧ 1 ≤ divisor.toNat ∧ divisor.toNat ≤ 16 ∧ phase.toNat < divisor.toNat then
    some { slot := (w.extractLsb' 0 5).toFin, divisor := divisor, phase := phase }
  else none

/-- LIST_LEN: 0 to 64 (R48). -/
def lengthOfWord (w : Word) : Option (BitVec 7) :=
  if w.toNat ≤ 64 then some (w.extractLsb' 0 7) else none

/-- LCNT_SEL: 0 to 12 (R152). -/
def counterOfWord (w : Word) : Option (BitVec 4) :=
  if w.toNat ≤ 12 then some (w.extractLsb' 0 4) else none

/-- A byte in bits 7:0 of a word whose other bits are 0 (REQ_TAG, FRESH_LIMIT). -/
def byteOfWord (w : Word) : Option Byte :=
  if w.toNat < 256 then some (loByte w) else none

/-- REQ_SERVICE: 0 to 127 (R93). -/
def serviceOfWord (w : Word) : Option (BitVec 7) :=
  if w.toNat < 128 then some (w.extractLsb' 0 7) else none

/-- REQ_LEN and REQ_REPLYMAX: 0 to 120 (R93). -/
def payloadLengthOfWord (w : Word) : Option (BitVec 7) :=
  if w.toNat ≤ 120 then some (w.extractLsb' 0 7) else none

/-- REQ_CTL: the retry limit in bits 1:0, the deadline in bits 15:8, every other position 0 (R93). -/
def requestCtlOfWord (w : Word) : Option (BitVec 2 × Byte) :=
  if w.extractLsb' 2 6 = 0 then some (w.extractLsb' 0 2, hiByte w) else none

/-- LINE_MODE: the rate code 0 to 7 in bits 2:0, BUDGET_OFF in bit 3 (R16, R50). -/
def lineModeOfWord (w : Word) : Option (BitVec 3 × Bool) :=
  if w.toNat < 16 then some (w.extractLsb' 0 3, w.getLsbD 3) else none

/-- PERIOD_HI: PERIOD bits 19:16 in bits 3:0 (R121). -/
def periodHiOfWord (w : Word) : Option (BitVec 4) :=
  if w.toNat < 16 then some (w.extractLsb' 0 4) else none

/-- SYNC_MODE: external in bit 0, falling in bit 1 (R122). -/
def syncModeOfWord (w : Word) : Option (Bool × Bool) :=
  if w.toNat < 4 then some (w.getLsbD 0, w.getLsbD 1) else none

/-- INT_STATUS and INT_ENABLE: seven positions, the others 0 (R177, R178). -/
def sourcesOfWord (w : Word) : Option (BitVec 7) :=
  if w.toNat < 128 then some (w.extractLsb' 0 7) else none

/-- WIN_ADDR: the byte address in bits 11:1; bit 0 is ignored and held at 0; bits 15:12 must be 0
(R183). -/
def windowAddressOfWord (w : Word) : Option (BitVec 12) :=
  if w.toNat < 4096 then some (w.extractLsb' 1 11 ++ 0#1) else none

end Sys2Proof.Machine
end

