-- ==== Sys2Proof/Machine/Window.lean ====
section
/-! DEFINITION. The buffer window: WIN_DATA_READ, WIN_DATA_WRITE, WIN_ADDR_WRITE (10.3). -/

namespace Sys2Proof.Machine

/-- The regions of the buffer window with the offset reached in them (Table 10-4). -/
inductive WindowPlace where
  | staged (a : Nat)
  | heldData (a : Nat)
  | heldSlot (i : Nat) (k : Nat)
  | heldSummary (k : Nat)
  | composer (k : Nat)
  | completionHeader (k : Nat)
  | completionPayload (k : Nat)
  | eventHead (k : Nat)
  | unmapped
  deriving DecidableEq, Repr

/-- The region an address lies in (Table 10-4). -/
def windowPlace (a : Nat) : WindowPlace :=
  if a < 0x400 then .staged a
  else if a < 0x800 then .heldData (a - 0x400)
  else if a < 0xA00 then .heldSlot ((a - 0x800) / 16) ((a - 0x800) % 16)
  else if a < 0xA20 then .heldSummary (a - 0xA00)
  else if a < 0xB00 then .unmapped
  else if a < 0xB78 then .composer (a - 0xB00)
  else if a < 0xC00 then .unmapped
  else if a < 0xC10 then .completionHeader (a - 0xC00)
  else if a < 0xC88 then .completionPayload (a - 0xC10)
  else if a < 0xD00 then .unmapped
  else if a < 0xD10 then .eventHead (a - 0xD00)
  else .unmapped

/-- The byte of a place as it stands; an empty queue's head reads 0, an unmapped place 0 (R72, R94, R110,
R173, R184). -/
def State.windowByte (s : State) : WindowPlace → Byte
  | .staged a => Memory.read s.stagedBank a
  | .heldData a => Memory.read s.heldInBank.data a
  | .heldSlot i k => ((s.heldInBank.slots.toList.getD i {}).bytes).getD k 0
  | .heldSummary k => s.heldInBank.summary.bytes.getD k 0
  | .composer k => Memory.read s.reqs.payload k
  | .completionHeader k =>
    match s.reqs.completions with
    | [] => 0
    | c :: _ => c.headerBytes.getD k 0
  | .completionPayload k =>
    match s.reqs.completions with
    | [] => 0
    | c :: _ => c.payload.getD k 0
  | .eventHead k =>
    match s.events.queue with
    | [] => 0
    | e :: _ => e.bytes.getD k 0
  | .unmapped => 0

/-- WIN_ADDR increases by 2, wrapping from 0xFFE to 0x000 (R184). -/
def advanceWindow (s : State) : State := { s with port.winAddr := s.port.winAddr + 2 }

/-- The word of a WIN_DATA read: the byte at WIN_ADDR on bits 7:0, the next on bits 15:8 (R184). -/
def State.windowWord (s : State) : Word :=
  wordOf (s.windowByte (windowPlace s.port.winAddr.toNat))
    (s.windowByte (windowPlace (s.port.winAddr.toNat + 1)))

/-- A WIN_DATA read and its side effects: WIN_ADDR advances; an unmapped address sets ACCESS (R184). -/
def readWindow (s : State) : Word × State :=
  let t := advanceWindow s
  (s.windowWord,
    if windowPlace s.port.winAddr.toNat = .unmapped then setAccess t else t)

/-- Two bytes are stored at a byte address of the STAGED bank (R73). -/
def storeStaged (a : Nat) (w : Word) (s : State) : State :=
  { s with
    images.outBanks := s.images.outBanks.set s.images.staged
      (Memory.writeAll s.stagedBank a (wordBytes w)) }

/-- What a WIN_DATA write stores before WIN_ADDR advances: the STAGED bank while no commit is pending,
the composer payload; every other place ignores it and sets ACCESS (R73, R94, R184). -/
def storeWindow (w : Word) (s : State) : State :=
  match windowPlace s.port.winAddr.toNat with
  | .staged a => if s.images.commitPending then setAccess s else storeStaged a w s
  | .composer k => { s with reqs.payload := Memory.writeAll s.reqs.payload k (wordBytes w) }
  | .heldData _ => setAccess s
  | .heldSlot _ _ => setAccess s
  | .heldSummary _ => setAccess s
  | .completionHeader _ => setAccess s
  | .completionPayload _ => setAccess s
  | .eventHead _ => setAccess s
  | .unmapped => setAccess s

/-- A WIN_DATA write (R184). -/
def writeWindow (w : Word) (s : State) : State := advanceWindow (storeWindow w s)

/-- A WIN_ADDR write (R183). -/
def writeWindowAddress (w : Word) (s : State) : State :=
  match windowAddressOfWord w with
  | some a => { s with port.winAddr := a }
  | none => setAccess s

/-- WIN_DATA_READ (R184). -/
def execWinDataRead (s : State) : Out := .next (hostRead readWindow s)

/-- WIN_DATA_WRITE (R184). -/
def execWinDataWrite (w : Word) (s : State) : Out := .next (hostWrite (writeWindow w) s)

/-- WIN_ADDR_WRITE (R183). -/
def execWinAddrWrite (w : Word) (s : State) : Out := .next (hostWrite (writeWindowAddress w) s)

end Sys2Proof.Machine
end

