-- ==== Sys2Proof/Machine/RegisterWrites.lean ====
section
/-! DEFINITION. The register writes that have a row of their own (Chapters 2, 3, 5, 6, 7, 8, 9). -/

namespace Sys2Proof.Machine

/-- A write is taken when its word has a meaning for the register, else it is ignored whole and sets
ACCESS (R179, R182). -/
def takeWord {α : Type} (v : Option α) (f : α → State → State) (s : State) : State :=
  match v with
  | some x => f x s
  | none => setAccess s

/-! ## Interrupts (R177, R178) -/

/-- Each latched flag whose position carries a 1 is cleared; level positions have no effect (R177). -/
def clearLatched (m : BitVec 7) (s : State) : State :=
  { s with
    events.cycleFlag := s.events.cycleFlag && !m.getLsbD 3
    events.inReadyFlag := s.events.inReadyFlag && !m.getLsbD 4
    events.outTakenFlag := s.events.outTakenFlag && !m.getLsbD 5
    events.accessFlag := s.events.accessFlag && !m.getLsbD 6 }

/-- A write of INT_STATUS (R177). -/
def writeIntStatus (w : Word) (s : State) : State := takeWord (sourcesOfWord w) clearLatched s

/-- A write of INT_ENABLE (R178). -/
def writeIntEnable (w : Word) (s : State) : State :=
  takeWord (sourcesOfWord w) (fun m s => { s with events.intEnable := m }) s

/-- INT_STATUS_WRITE (R177). -/
def execIntStatusWrite (w : Word) (s : State) : Out := .next (hostWrite (writeIntStatus w) s)

/-- INT_ENABLE_WRITE (R178). -/
def execIntEnableWrite (w : Word) (s : State) : Out := .next (hostWrite (writeIntEnable w) s)

/-! ## Station registers (R20, R22) -/

/-- A write of STN_SEL (R20). -/
def writeStnSel (w : Word) (s : State) : State :=
  takeWord (slotOfWord w) (fun i s => { s with port.stnSel := i }) s

/-- The record with the fields a station configuration register carries, if all are in range (R22). -/
def Station.configured (r : Station) (reg : StationReg) (w : Word) : Option Station :=
  match reg with
  | .stnAddr => (addressOfWord w).map fun a => { r with address := a }
  | .stnOut => (areaOfWord w).map fun p => { r with outLen := p.1, outOffset := p.2 }
  | .stnIn => (areaOfWord w).map fun p => { r with inLen := p.1, inOffset := p.2 }
  | .stnLimits => (limitsOfWord w).map fun p => { r with missLimit := p.1, probeInterval := p.2 }

/-- A write of STN_ADDR, STN_OUT, STN_IN or STN_LIMITS: taken when the selected station is disabled and
every field is in range (R22). -/
def writeStationConfig (reg : StationReg) (w : Word) (s : State) : State :=
  let r := s.station s.port.stnSel
  if r.enabled then setAccess s
  else takeWord (r.configured reg w) (fun q s => s.setStation s.port.stnSel q) s

/-- STN_SEL_WRITE (R20). -/
def execStnSelWrite (w : Word) (s : State) : Out := .next (hostWrite (writeStnSel w) s)

/-- STATION_CONFIG_WRITE (R22). -/
def execStationConfigWrite (reg : StationReg) (w : Word) (s : State) : Out :=
  .next (hostWrite (writeStationConfig reg w) s)

/-! ## Exchange list registers (R46 to R48) -/

/-- A write of LIST_SEL (R46). -/
def writeListSel (w : Word) (s : State) : State :=
  takeWord (positionOfWord w) (fun p s => { s with port.listSel := p }) s

/-- The entry at the selected position of the SHADOW list is replaced (R47). -/
def setShadowEntry (e : ListEntry) (s : State) : State :=
  let l := s.lists.shadowList
  { s with lists := s.lists.setShadow { l with entries := l.entries.set s.port.listSel.toFin e } }

/-- A write of LIST_ENTRY: taken when no switch is pending and the fields are valid (R47). -/
def writeListEntry (w : Word) (s : State) : State :=
  if s.lists.pendingSwitch then setAccess s else takeWord (entryOfWord w) setShadowEntry s

/-- A write of LIST_LEN: 0 to 64 when no switch is pending (R48). -/
def writeListLen (w : Word) (s : State) : State :=
  if s.lists.pendingSwitch then setAccess s
  else
    takeWord (lengthOfWord w)
      (fun n s => { s with lists := s.lists.setShadow { s.lists.shadowList with len := n } }) s

/-- LIST_SEL_WRITE (R46). -/
def execListSelWrite (w : Word) (s : State) : Out := .next (hostWrite (writeListSel w) s)

/-- LIST_ENTRY_WRITE (R47). -/
def execListEntryWrite (w : Word) (s : State) : Out := .next (hostWrite (writeListEntry w) s)

/-- LIST_LEN_WRITE (R48). -/
def execListLenWrite (w : Word) (s : State) : Out := .next (hostWrite (writeListLen w) s)

/-! ## Composer (R93) -/

/-- The composer with the fields a register carries, if all are in range (R93). -/
def Composer.written (c : Composer) (reg : ComposerReg) (w : Word) : Option Composer :=
  match reg with
  | .reqTag => (byteOfWord w).map fun v => { c with tag := v }
  | .reqSlot => (slotOfWord w).map fun v => { c with slot := v }
  | .reqService => (serviceOfWord w).map fun v => { c with service := v }
  | .reqLen => (payloadLengthOfWord w).map fun v => { c with length := v }
  | .reqReplymax => (payloadLengthOfWord w).map fun v => { c with replyMax := v }
  | .reqCtl => (requestCtlOfWord w).map fun p => { c with retryLimit := p.1, deadline := p.2 }

/-- A write of a composer register (R93). -/
def writeComposer (reg : ComposerReg) (w : Word) (s : State) : State :=
  takeWord (s.reqs.composer.written reg w) (fun c s => { s with reqs.composer := c }) s

/-- COMPOSER_WRITE (R93). -/
def execComposerWrite (reg : ComposerReg) (w : Word) (s : State) : Out :=
  .next (hostWrite (writeComposer reg w) s)

/-! ## Line counter selection (R152) -/

/-- A write of LCNT_SEL (R152). -/
def writeLcntSel (w : Word) (s : State) : State :=
  takeWord (counterOfWord w) (fun n s => { s with port.lcntSel := n }) s

/-- LCNT_SEL_WRITE (R152). -/
def execLcntSelWrite (w : Word) (s : State) : Out := .next (hostWrite (writeLcntSel w) s)

/-! ## Line and cycle configuration (R16, R78, R121, R122, R169) -/

/-- A configuration register is written in CONFIG alone; in any other state the write is ignored and sets
ACCESS (R169). -/
def inConfig (f : State → State) (s : State) : State :=
  if s.sched.ctrl = .config then f s else setAccess s

/-- What a write of a configuration register stores in CONFIG: RESP_WIN, CHAR_GAP, GUARD, BUSY_LIMIT,
RESERVE, SYNC_TOL and PERIOD_LO every word; LINE_MODE, PERIOD_HI and FRESH_LIMIT a word with no position
set outside their fields (R16, R78, R121, R182). -/
def storeConfig (reg : ConfigReg) (w : Word) (s : State) : State :=
  match reg with
  | .lineMode =>
    takeWord (lineModeOfWord w) (fun p s => { s with line.rateCode := p.1, line.budgetOff := p.2 }) s
  | .respWin => { s with line.respWin := w }
  | .charGap => { s with line.charGap := w }
  | .guardTime => { s with line.guardTime := w }
  | .busyLimit => { s with line.busyLimit := w }
  | .periodLo => { s with tb.period := s.tb.period.extractLsb' 16 4 ++ w }
  | .periodHi =>
    takeWord (periodHiOfWord w) (fun h s => { s with tb.period := h ++ s.tb.period.extractLsb' 0 16 }) s
  | .reserve => { s with tb.reserve := w }
  | .syncTol => { s with tb.syncTol := w }
  | .freshLimit => takeWord (byteOfWord w) (fun v s => { s with images.freshLimit := v }) s

/-- A write of a line or cycle configuration register (R169). -/
def writeConfig (reg : ConfigReg) (w : Word) (s : State) : State := inConfig (storeConfig reg w) s

/-- CONFIG_REGISTER_WRITE (R169). -/
def execConfigRegisterWrite (reg : ConfigReg) (w : Word) (s : State) : Out :=
  .next (hostWrite (writeConfig reg w) s)

/-- Mode and edge are stored, and the tracker is set afresh with miss count 0 (R122, R130). -/
def storeSyncMode (p : Bool × Bool) (s : State) : State :=
  { s with
    tb.external := p.1, tb.falling := p.2, tb.tracker := trackerForMode p.1, tb.missCount := 0 }

/-- A write of SYNC_MODE (R122). -/
def writeSyncMode (w : Word) (s : State) : State :=
  inConfig (takeWord (syncModeOfWord w) storeSyncMode) s

/-- SYNC_MODE_WRITE (R122). -/
def execSyncModeWrite (w : Word) (s : State) : Out := .next (hostWrite (writeSyncMode w) s)

end Sys2Proof.Machine
end

