-- ==== Sys2Proof/Machine/StationCommands.lean ====
section
/-! DEFINITION. The commands ENABLE_STATION, DISABLE_STATION and CLEAR_COUNTERS (2.2, 2.3). -/

namespace Sys2Proof.Machine

/-- ENABLE_STATION's checks in the order of R26 from its second step on, and its effect (R31). -/
def enableStationBody (arg : Byte) (s : State) : Except ResultCode State :=
  match slotOfArg arg with
  | none => .error .badArgument
  | some i =>
    if (s.station i).enabled then .error .wrongState
    else if !(s.station i).areasFit then .error .badArgument
    else if !s.addressFree i then .error .addressInUse
    else if !s.areasFree i then .error .overlap
    else if !s.enableBudgetOk i then .error .budget
    else .ok (s.modifyStation i Station.enable)

/-- ENABLE_STATION (R26). -/
def execEnableStation (arg : Byte) (s : State) : Out :=
  .next (takeCommand 0x10 arg (enableStationBody arg) s)

/-- DISABLE_STATION marks the exchange for the slot that is on the line for discard (R33). -/
def markDiscard (i : Slot) (p : Piece) : Piece :=
  match p.work with
  | .exchange j _ _ _ _ _ => if j = i then { p with discard := true } else p
  | .sync _ => p
  | .attempt _ _ _ _ => p

/-- The effects of an accepted DISABLE_STATION: the record, the discard mark of its exchange, the mark of
its attempt (R32, R33, R114). -/
def disableRun (i : Slot) (s : State) : State :=
  let t := markDisabled i (s.modifyStation i Station.disable)
  { t with line.piece := t.line.piece.map (markDiscard i) }

/-- DISABLE_STATION's checks and effects (R32). -/
def disableStationBody (arg : Byte) (s : State) : Except ResultCode State :=
  match slotOfArg arg with
  | none => .error .badArgument
  | some i => if (s.station i).enabled then .ok (disableRun i s) else .error .wrongState

/-- DISABLE_STATION (R32, R33, R114). -/
def execDisableStation (arg : Byte) (s : State) : Out :=
  .next (takeCommand 0x11 arg (disableStationBody arg) s)

/-- CLEAR_COUNTERS: a station's three counters for 0 to 31, the line counters for 0xFF (R34). -/
def clearCountersBody (arg : Byte) (s : State) : Except ResultCode State :=
  match slotOfArg arg with
  | some i => .ok (s.modifyStation i Station.clearCounters)
  | none =>
    if arg = 0xFF#8 then .ok { s with line.counters := Vector.replicate 13 0 }
    else .error .badArgument

/-- CLEAR_COUNTERS (R34). -/
def execClearCounters (arg : Byte) (s : State) : Out :=
  .next (takeCommand 0x12 arg (clearCountersBody arg) s)

end Sys2Proof.Machine
end

