-- ==== Sys2Proof/Machine/Registers.lean ====
section
/-! DEFINITION. The register map (10.2): what a read of every register returns, what a write of every
register does, and the rows UNKNOWN_COMMAND, TIME_LO_READ, REGISTER_WRITE and UNMAPPED_REGISTER_READ. -/

namespace Sys2Proof.Machine

/-- The registers of Table 10-1. -/
inductive Reg where
  | ident | state | command | result | intStatus | intEnable | timeLo | timeHi | cycle
  | config (r : ConfigReg)
  | syncMode | freshCount | evtInfo | queueInfo | stnSel
  | station (r : StationReg)
  | stnStatus | stnGood | stnMissed | stnErrored | stnTimeLo | stnTimeHi | stnLastcyc
  | listSel | listEntry | listLen | listInfo
  | composer (r : ComposerReg)
  | lcntSel | lcntVal | winAddr | winData
  deriving DecidableEq, Repr

/-- The register at a word offset A[6:1]; none where the offset is unmapped (Table 10-1, R182). The
numbers are the byte offsets of the table. -/
def regAt (a : BitVec 6) : Option Reg :=
  match 2 * a.toNat with
  | 0x00 => some .ident
  | 0x02 => some .state
  | 0x04 => some .command
  | 0x06 => some .result
  | 0x08 => some .intStatus
  | 0x0A => some .intEnable
  | 0x0C => some .timeLo
  | 0x0E => some .timeHi
  | 0x10 => some .cycle
  | 0x12 => some (.config .periodLo)
  | 0x14 => some (.config .periodHi)
  | 0x16 => some (.config .reserve)
  | 0x18 => some .syncMode
  | 0x1A => some (.config .syncTol)
  | 0x1C => some (.config .lineMode)
  | 0x1E => some (.config .respWin)
  | 0x20 => some (.config .charGap)
  | 0x22 => some (.config .guardTime)
  | 0x24 => some (.config .busyLimit)
  | 0x26 => some (.config .freshLimit)
  | 0x28 => some .freshCount
  | 0x2A => some .evtInfo
  | 0x2C => some .queueInfo
  | 0x30 => some .stnSel
  | 0x32 => some (.station .stnAddr)
  | 0x34 => some (.station .stnOut)
  | 0x36 => some (.station .stnIn)
  | 0x38 => some (.station .stnLimits)
  | 0x3A => some .stnStatus
  | 0x3C => some .stnGood
  | 0x3E => some .stnMissed
  | 0x40 => some .stnErrored
  | 0x42 => some .stnTimeLo
  | 0x44 => some .stnTimeHi
  | 0x46 => some .stnLastcyc
  | 0x50 => some .listSel
  | 0x52 => some .listEntry
  | 0x54 => some .listLen
  | 0x56 => some .listInfo
  | 0x60 => some (.composer .reqTag)
  | 0x62 => some (.composer .reqSlot)
  | 0x64 => some (.composer .reqService)
  | 0x66 => some (.composer .reqLen)
  | 0x68 => some (.composer .reqReplymax)
  | 0x6A => some (.composer .reqCtl)
  | 0x70 => some .lcntSel
  | 0x72 => some .lcntVal
  | 0x7C => some .winAddr
  | 0x7E => some .winData
  | _ => none

/-! ## Reads -/

/-- The word of a configuration register (Table 10-1). -/
def State.configWord (s : State) (r : ConfigReg) : Word :=
  match r with
  | .lineMode => 0#12 ++ BitVec.ofBool s.line.budgetOff ++ s.line.rateCode
  | .respWin => s.line.respWin
  | .charGap => s.line.charGap
  | .guardTime => s.line.guardTime
  | .busyLimit => s.line.busyLimit
  | .periodLo => s.tb.period.extractLsb' 0 16
  | .periodHi => (s.tb.period.extractLsb' 16 4).zeroExtend 16
  | .reserve => s.tb.reserve
  | .syncTol => s.tb.syncTol
  | .freshLimit => s.images.freshLimit.zeroExtend 16

/-- The word of a station configuration register of a record (Table 10-1). -/
def Station.configWord (q : Station) (r : StationReg) : Word :=
  match r with
  | .stnAddr => q.address.zeroExtend 16
  | .stnOut => q.outLen ++ q.outOffset
  | .stnIn => q.inLen ++ q.inOffset
  | .stnLimits => q.probeInterval ++ 0#4 ++ q.missLimit

/-- The word of a composer register (Table 10-1). -/
def Composer.word (c : Composer) (r : ComposerReg) : Word :=
  match r with
  | .reqTag => c.tag.zeroExtend 16
  | .reqSlot => BitVec.ofNat 16 c.slot.val
  | .reqService => c.service.zeroExtend 16
  | .reqLen => c.length.zeroExtend 16
  | .reqReplymax => c.replyMax.zeroExtend 16
  | .reqCtl => c.deadline ++ 0#6 ++ c.retryLimit

/-- The word of LIST_ENTRY: the SHADOW entry at LIST_SEL (R47). -/
def State.listEntryWord (s : State) : Word :=
  let e := s.lists.shadowList.entries[s.port.listSel.toFin]
  0#2 ++ e.phase ++ e.divisor ++ BitVec.ofNat 5 e.slot.val

/-- The word a read of a register returns outside RESETTING, but for WIN_DATA (R23, R46, R96, R152,
R156, R161, R173, R177, Table 10-1). -/
def State.regWord (s : State) (r : Reg) : Word :=
  match r with
  | .ident => Config.ident
  | .state => s.stateWord
  | .command => s.port.command
  | .result => wordOf s.port.resultCommand s.port.resultCode.code
  | .intStatus => s.intStatus.zeroExtend 16
  | .intEnable => s.events.intEnable.zeroExtend 16
  | .timeLo => timeLo s.tb.time
  | .timeHi => s.port.timeSnapshot
  | .cycle => s.sched.cycle
  | .config c => s.configWord c
  | .syncMode => 0#14 ++ BitVec.ofBool s.tb.falling ++ BitVec.ofBool s.tb.external
  | .freshCount => s.images.freshCount.zeroExtend 16
  | .evtInfo => s.events.lossCount ++ 0#2 ++ BitVec.ofNat 6 s.events.queue.length
  | .queueInfo =>
    0#4 ++ BitVec.ofNat 4 s.reqs.completions.length ++ 0#3 ++ BitVec.ofNat 1 s.reqs.inFlight
      ++ BitVec.ofNat 4 s.reqs.queue.length
  | .stnSel => BitVec.ofNat 16 s.port.stnSel.val
  | .station c => (s.station s.port.stnSel).configWord c
  | .stnStatus => (s.station s.port.stnSel).statusWord
  | .stnGood => (s.station s.port.stnSel).goodReplies
  | .stnMissed => (s.station s.port.stnSel).missed
  | .stnErrored => (s.station s.port.stnSel).errored
  | .stnTimeLo => timeLo (s.station s.port.stnSel).lastReplyTime
  | .stnTimeHi => timeHi (s.station s.port.stnSel).lastReplyTime
  | .stnLastcyc => (s.station s.port.stnSel).lastReplyCycle
  | .listSel => s.port.listSel.zeroExtend 16
  | .listEntry => s.listEntryWord
  | .listLen => s.lists.shadowList.len.zeroExtend 16
  | .listInfo =>
    s.lists.shadowList.len ++ s.lists.activeList.len ++ BitVec.ofBool s.lists.pendingSwitch
      ++ BitVec.ofBool s.lists.active
  | .composer c => s.reqs.composer.word c
  | .lcntSel => s.port.lcntSel.zeroExtend 16
  | .lcntVal => s.line.counters.toList.getD s.port.lcntSel.toNat 0
  | .winAddr => s.port.winAddr.zeroExtend 16
  | .winData => s.windowWord

/-- A TIME_LO read: the low half of TIME; the high half goes into the snapshot at the same instant
(R120). -/
def readTimeLo (s : State) : Word × State :=
  (timeLo s.tb.time, { s with port.timeSnapshot := timeHi s.tb.time })

/-- A read of a register: TIME_LO and WIN_DATA have side effects, no other register has (R181). -/
def readReg (r : Reg) (s : State) : Word × State :=
  match r with
  | .timeLo => readTimeLo s
  | .winData => readWindow s
  | r => (s.regWord r, s)

/-- A read of a word offset: an unmapped one returns 0 and sets ACCESS (R182). -/
def readOffset (a : BitVec 6) (s : State) : Word × State :=
  match regAt a with
  | some r => readReg r s
  | none => (0, setAccess s)

/-! ## Commands by code, and writes -/

/-- The checks and effects of the command with a code; a code that is not in Table 8-3 is refused
UNKNOWN_COMMAND (R160). -/
def commandBody (code arg : Byte) : State → Except ResultCode State :=
  match code.toNat with
  | 0x01 => startBody
  | 0x02 => stopBody
  | 0x03 => clearFaultBody
  | 0x0F => softResetBody
  | 0x10 => enableStationBody arg
  | 0x11 => disableStationBody arg
  | 0x12 => clearCountersBody arg
  | 0x20 => switchListBody
  | 0x30 => commitOutputsBody
  | 0x31 => takeInputsBody
  | 0x40 => postRequestBody
  | 0x41 => cancelRequestBody arg
  | 0x42 => popCompletionBody
  | 0x50 => popEventBody
  | 0x51 => clearEventLossBody
  | _ => fun _ => .error .unknownCommand

/-- A write of a register outside RESETTING; one to a read-only register is ignored and sets ACCESS
(R182). A write of COMMAND is the command itself (R160). -/
def writeReg (r : Reg) (w : Word) (s : State) : State :=
  match r with
  | .command => takeCommand (loByte w) (hiByte w) (commandBody (loByte w) (hiByte w)) s
  | .intStatus => writeIntStatus w s
  | .intEnable => writeIntEnable w s
  | .config c => writeConfig c w s
  | .syncMode => writeSyncMode w s
  | .stnSel => writeStnSel w s
  | .station c => writeStationConfig c w s
  | .listSel => writeListSel w s
  | .listEntry => writeListEntry w s
  | .listLen => writeListLen w s
  | .composer c => writeComposer c w s
  | .lcntSel => writeLcntSel w s
  | .winAddr => writeWindowAddress w s
  | .winData => writeWindow w s
  | .ident => setAccess s
  | .state => setAccess s
  | .result => setAccess s
  | .timeLo => setAccess s
  | .timeHi => setAccess s
  | .cycle => setAccess s
  | .freshCount => setAccess s
  | .evtInfo => setAccess s
  | .queueInfo => setAccess s
  | .stnStatus => setAccess s
  | .stnGood => setAccess s
  | .stnMissed => setAccess s
  | .stnErrored => setAccess s
  | .stnTimeLo => setAccess s
  | .stnTimeHi => setAccess s
  | .stnLastcyc => setAccess s
  | .listInfo => setAccess s
  | .lcntVal => setAccess s

/-- A write of a word offset: an unmapped one is ignored and sets ACCESS (R182). -/
def writeOffset (a : BitVec 6) (w : Word) (s : State) : State :=
  match regAt a with
  | some r => writeReg r w s
  | none => setAccess s

/-! ## Rows -/

/-- UNKNOWN_COMMAND (R160). With a code of Table 8-3 it is that command (log 10). -/
def execUnknownCommand (code arg : Byte) (s : State) : Out :=
  .next (takeCommand code arg (commandBody code arg) s)

/-- TIME_LO_READ (R120). -/
def execTimeLoRead (s : State) : Out := .next (hostRead readTimeLo s)

/-- REGISTER_WRITE (R182). At the offset of a register with a row of its own it is that write (log 10). -/
def execRegisterWrite (a : BitVec 6) (w : Word) (s : State) : Out := .next (hostWrite (writeOffset a w) s)

/-- UNMAPPED_REGISTER_READ (R182). At a mapped offset it is the read of that register (log 10). -/
def execUnmappedRegisterRead (a : BitVec 6) (s : State) : Out := .next (hostRead (readOffset a) s)

end Sys2Proof.Machine
end

