-- ==== Sys2Proof/Machine/Dispatch.lean ====
section
/-! DEFINITION. exec: one arm per row of the table. -/

namespace Sys2Proof.Machine

def exec (i : Instr) (s : State) : Host.Outcome State Fault Refusal :=
  match i with
  | .start arg => Sys2Proof.Machine.execStart arg s
  | .stop arg => Sys2Proof.Machine.execStop arg s
  | .clearFault arg => Sys2Proof.Machine.execClearFault arg s
  | .softReset arg => Sys2Proof.Machine.execSoftReset arg s
  | .enableStation arg => Sys2Proof.Machine.execEnableStation arg s
  | .disableStation arg => Sys2Proof.Machine.execDisableStation arg s
  | .clearCounters arg => Sys2Proof.Machine.execClearCounters arg s
  | .switchList arg => Sys2Proof.Machine.execSwitchList arg s
  | .commitOutputs arg => Sys2Proof.Machine.execCommitOutputs arg s
  | .takeInputs arg => Sys2Proof.Machine.execTakeInputs arg s
  | .postRequest arg => Sys2Proof.Machine.execPostRequest arg s
  | .cancelRequest tag => Sys2Proof.Machine.execCancelRequest tag s
  | .popCompletion arg => Sys2Proof.Machine.execPopCompletion arg s
  | .popEvent arg => Sys2Proof.Machine.execPopEvent arg s
  | .clearEventLoss arg => Sys2Proof.Machine.execClearEventLoss arg s
  | .unknownCommand code arg => Sys2Proof.Machine.execUnknownCommand code arg s
  | .timeLoRead => Sys2Proof.Machine.execTimeLoRead s
  | .winDataRead => Sys2Proof.Machine.execWinDataRead s
  | .winDataWrite w => Sys2Proof.Machine.execWinDataWrite w s
  | .winAddrWrite w => Sys2Proof.Machine.execWinAddrWrite w s
  | .intStatusWrite w => Sys2Proof.Machine.execIntStatusWrite w s
  | .intEnableWrite w => Sys2Proof.Machine.execIntEnableWrite w s
  | .stnSelWrite w => Sys2Proof.Machine.execStnSelWrite w s
  | .stationConfigWrite r w => Sys2Proof.Machine.execStationConfigWrite r w s
  | .listSelWrite w => Sys2Proof.Machine.execListSelWrite w s
  | .listEntryWrite w => Sys2Proof.Machine.execListEntryWrite w s
  | .listLenWrite w => Sys2Proof.Machine.execListLenWrite w s
  | .composerWrite r w => Sys2Proof.Machine.execComposerWrite r w s
  | .lcntSelWrite w => Sys2Proof.Machine.execLcntSelWrite w s
  | .configRegisterWrite r w => Sys2Proof.Machine.execConfigRegisterWrite r w s
  | .syncModeWrite w => Sys2Proof.Machine.execSyncModeWrite w s
  | .registerWrite a w => Sys2Proof.Machine.execRegisterWrite a w s
  | .unmappedRegisterRead a => Sys2Proof.Machine.execUnmappedRegisterRead a s
  | .resetnLow => Sys2Proof.Machine.execResetnLow s
  | .resetnRelease => Sys2Proof.Machine.execResetnRelease s
  | .bufferClearEnd => Sys2Proof.Machine.execBufferClearEnd s
  | .timeTick => Sys2Proof.Machine.execTimeTick s
  | .syncinEdge e => Sys2Proof.Machine.execSyncinEdge e s
  | .rxdCharacterArrival => Sys2Proof.Machine.execRxdCharacterArrival s
  | .characterCompletion c => Sys2Proof.Machine.execCharacterCompletion c s
  | .echoCheck e => Sys2Proof.Machine.execEchoCheck e s
  | .responseWindowExpiry => Sys2Proof.Machine.execResponseWindowExpiry s
  | .charGapExpiry => Sys2Proof.Machine.execCharGapExpiry s
  | .openingGuardEnd => Sys2Proof.Machine.execOpeningGuardEnd s
  | .settleEnd => Sys2Proof.Machine.execSettleEnd s
  | .closingGuardEnd => Sys2Proof.Machine.execClosingGuardEnd s
  | .busyLimitExpiry => Sys2Proof.Machine.execBusyLimitExpiry s
  | .cycleTimerExpiry => Sys2Proof.Machine.execCycleTimerExpiry s
  | .syncWindowExpiry => Sys2Proof.Machine.execSyncWindowExpiry s
  | .syncoutPulseEnd => Sys2Proof.Machine.execSyncoutPulseEnd s
  | .startBitMiddleSample level => Sys2Proof.Machine.execStartBitMiddleSample level s

end Sys2Proof.Machine
end

