-- ==== Sys2Proof/Machine/Idle.lean ====
section
/-! DEFINITION. What the block does by itself on an empty queue: an expiry of its own timers that is due
is taken, else one CLKIN period passes (log 2). -/

namespace Sys2Proof.Machine

/-- The expiries of the part's own timers that are due at this instant. -/
def dueEvents (s : State) : List Instr :=
  [(s.clearDue, Instr.bufferClearEnd), (s.pulseDue, .syncoutPulseEnd), (s.cycleTimerDue, .cycleTimerExpiry),
    (s.syncWindowDue, .syncWindowExpiry), (s.openingPiece.isSome, .openingGuardEnd),
    (s.settleDue, .settleEnd), (s.closingPiece.isSome, .closingGuardEnd),
    (s.busyDue, .busyLimitExpiry), (s.windowDue, .responseWindowExpiry), (s.gapDue, .charGapExpiry)].filterMap
    fun p => if p.1 then some p.2 else none

/-- A step on an empty queue. Where several expiries are due at one instant, the free value says which is
taken first (log 4). -/
def idle (s : State) : Out :=
  match dueEvents s with
  | [] => .next (passClock s)
  | [c] => exec c s
  | c :: d :: cs =>
    exec ((c :: d :: cs).getD (Config.pickDue s.freeCount % (cs.length + 2)) c)
      { s with freeCount := s.freeCount + 1 }

end Sys2Proof.Machine
end

