-- ==== Sys2Proof/Machine/Step.lean ====
section
/-! DEFINITION. One step: the command at the front of the queue, or the block by itself. -/

namespace Sys2Proof.Machine

/-- One step of the 3204: the command at the front of the queue is taken with the queue's rest; on an
empty queue the block goes on by itself (log 2). -/
def step (s : State) : Host.Outcome State Fault Refusal :=
  match s.pending with
  | c :: q => exec c { s with pending := q }
  | [] => idle s

/-- The state with the command that a table word spells put at the front of its queue; unchanged where
the word spells none, which is every word, since the table gives no bits. -/
def State.withFetchWord (s : State) (nbits w : Nat) : State :=
  match decodeTableWord nbits w with
  | some c => { s with pending := c :: s.pending }
  | none => s

end Sys2Proof.Machine
end

