-- ==== Sys2Proof/Safety.lean ====
section
/-! DEFINITION. The laws of the part as predicates on State, and the words the statements are written
with. Each law that the spec calls "a law of the part" names its rule; the others gather rules that hold
of every state a run reaches. -/

namespace Sys2Proof

/-! ## Words of the statements -/

/-- The commands whose code and argument are written to COMMAND, with both bytes. -/
def Instr.commandBytes : Instr → Option (Byte × Byte)
  | .start a => some (0x01, a)
  | .stop a => some (0x02, a)
  | .clearFault a => some (0x03, a)
  | .softReset a => some (0x0F, a)
  | .enableStation a => some (0x10, a)
  | .disableStation a => some (0x11, a)
  | .clearCounters a => some (0x12, a)
  | .switchList a => some (0x20, a)
  | .commitOutputs a => some (0x30, a)
  | .takeInputs a => some (0x31, a)
  | .postRequest a => some (0x40, a)
  | .cancelRequest a => some (0x41, a)
  | .popCompletion a => some (0x42, a)
  | .popEvent a => some (0x50, a)
  | .clearEventLoss a => some (0x51, a)
  | .unknownCommand c a => some (c, a)
  | _ => none

/-- The rows that are host accesses to a register or to the buffer window. -/
def Instr.isAccess : Instr → Bool
  | .timeLoRead => true
  | .winDataRead => true
  | .winDataWrite _ => true
  | .winAddrWrite _ => true
  | .intStatusWrite _ => true
  | .intEnableWrite _ => true
  | .stnSelWrite _ => true
  | .stationConfigWrite _ _ => true
  | .listSelWrite _ => true
  | .listEntryWrite _ => true
  | .listLenWrite _ => true
  | .composerWrite _ _ => true
  | .lcntSelWrite _ => true
  | .configRegisterWrite _ _ => true
  | .syncModeWrite _ => true
  | .registerWrite _ _ => true
  | .unmappedRegisterRead _ => true
  | _ => false

/-- The rows that are reads. -/
def Instr.isRead : Instr → Bool
  | .timeLoRead => true
  | .winDataRead => true
  | .unmappedRegisterRead _ => true
  | _ => false

end Sys2Proof

namespace Sys2Proof.Machine

/-- The Host Port takes accesses and commands: RESETn is high and the part is not in RESETTING
(R157, R159). -/
def State.serves (s : State) : Prop := s.resetLow = false ∧ s.sched.ctrl ≠ .resetting

/-- COMMAND and RESULT as a command leaves them: the word written, its code and its result (R161). -/
def State.answered (s : State) (code arg : Byte) (r : ResultCode) : State :=
  { s with port.command := arg ++ code, port.resultCommand := code, port.resultCode := r }

/-- The ACCESS latched flag set (R179). -/
def State.withAccess (s : State) : State := { s with events.accessFlag := true }

/-- A word driven on the bus by a read (log 7). -/
def State.driving (s : State) (w : Word) : State := { s with port.dataOut := some w }

/-- A run is in progress: RUNNING or STOPPING. -/
def State.onRun (s : State) : Prop := s.sched.ctrl = .running ∨ s.sched.ctrl = .stopping

/-- The phase a piece of work belongs to (Table 3-1). -/
def Work.phase : Work → Phase
  | .sync _ => .sync
  | .exchange _ _ _ _ _ _ => .cyclic
  | .attempt _ _ _ _ => .acyclic

/-! ## Laws -/

/-- The three input banks hold FILL, READY and HELD one each, the two output banks LIVE and STAGED
(R71). -/
def Images.RolesHeld (m : Images) : Prop :=
  m.live ≠ m.staged ∧ m.fill ≠ m.ready ∧ m.fill ≠ m.heldBank ∧ m.ready ≠ m.heldBank

/-- At most 8 requests; at most 8 completion records and requests in flight together; only the head is in
flight; a request that is not in flight has not been attempted (R96, R97). -/
def Requests.QueuesHeld (r : Requests) : Prop :=
  r.queue.length ≤ 8
    ∧ r.completions.length + r.inFlight ≤ 8
    ∧ (∀ q ∈ r.queue.tail, q.inFlight = false)
    ∧ ∀ q ∈ r.queue, q.inFlight = false → q.attemptsUsed = 0

/-- The event queue holds at most 32 records (R172). -/
def Events.QueueHeld (e : Events) : Prop := e.queue.length ≤ 32

/-- An enabled station is LOST exactly when its count equals its miss_limit, and is never OFFLINE; a
disabled one is OFFLINE with count 0 (R38, Table 2-3); miss_limit is at least 1 (Table 2-2). -/
def Station.HealthLaw (r : Station) : Prop :=
  r.missLimit ≠ 0
    ∧ (r.enabled = true → (r.health = .lost ↔ r.consecutiveMiss = r.missLimit) ∧ r.health ≠ .offline)
    ∧ (r.enabled = false → r.health = .offline ∧ r.consecutiveMiss = 0)

/-- The slot of an exchange in hand that is not discarded holds an enabled station (R33). -/
def ExchangeLive (p : Option Piece) (v : Vector Station 32) : Prop :=
  match p with
  | none => True
  | some p =>
    match p.work with
    | .exchange i _ _ _ _ _ => p.discard = false → v[i].enabled = true
    | .sync _ => True
    | .attempt _ _ _ _ => True

/-- The health law for every record, with what keeps it (R33, R38). -/
def State.HealthHeld (s : State) : Prop :=
  (∀ i, (s.station i).HealthLaw) ∧ ExchangeLive s.line.piece s.stations

/-- A record's configuration fields are in the ranges of Table 2-2 (R21, R22). -/
def Station.InRange (r : Station) : Prop :=
  r.address ≠ 0 ∧ r.outLen.toNat ≤ 32 ∧ r.inLen.toNat ≤ 32 ∧ r.missLimit ≠ 0 ∧ r.probeInterval ≠ 0

/-- Records in range; the areas of an enabled station end within the bank, and two enabled stations
share no address and no byte of an area (R22, R27, R28). -/
def State.TableHeld (s : State) : Prop :=
  (∀ i, (s.station i).InRange)
    ∧ (∀ i, (s.station i).enabled = true → (s.station i).areasFit = true)
    ∧ ∀ i j, i ≠ j → (s.station i).enabled = true → (s.station j).enabled = true →
        (s.station i).address ≠ (s.station j).address ∧ (s.station i).overlaps (s.station j) = false

/-- A list's entries and length are in range (R45). -/
def ExchangeList.InRange (l : ExchangeList) : Prop :=
  l.len.toNat ≤ 64
    ∧ ∀ k : Fin 64, 1 ≤ l.entries[k].divisor.toNat ∧ l.entries[k].divisor.toNat ≤ 16
        ∧ l.entries[k].phase.toNat < l.entries[k].divisor.toNat

/-- Both lists are in range (R45, R47, R48). -/
def Lists.InRange (l : Lists) : Prop := l.list0.InRange ∧ l.list1.InRange

/-- On a run the engine is not OFF, the Time Base is armed, and the piece in hand is of the kind of the
phase, one while the phase has line work and none otherwise; STOPPING has a piece in hand and no held
start. Outside a run the engine is OFF and empty, the Time Base disarmed, the phase NONE and no start held
(R123, R135, R57, R165, Table 3-1, Table 8-1). -/
def State.RunHeld (s : State) : Prop :=
  (s.onRun →
    s.line.engine ≠ .off ∧ s.tb.armed = true ∧ s.sched.phase ≠ .none
      ∧ (s.line.piece.isSome ↔ s.line.engine ≠ .idle)
      ∧ (s.line.piece.map fun p => p.work.phase)
          = (if s.sched.phase = .sync ∨ s.sched.phase = .cyclic ∨ s.sched.phase = .acyclic then
              some s.sched.phase
            else none)
      ∧ (s.sched.held.isSome → s.sched.phase = .acyclic)
      ∧ (s.sched.ctrl = .stopping → s.line.piece.isSome ∧ s.sched.held = none))
    ∧ (¬ s.onRun →
        s.line.engine = .off ∧ s.line.piece = none ∧ s.line.rx = none ∧ s.tb.armed = false
          ∧ s.sched.phase = .none ∧ s.sched.held = none)

/-- In RESETTING the line is OFF and every condition an interrupt source could rest on is clear; a clear
of the buffer memory is in progress exactly in RESETTING with RESETn high; a low RESETn means RESETTING
(R157, R158, R159). -/
def State.ResetHeld (s : State) : Prop :=
  (s.sched.ctrl = .resetting →
    s.line.engine = .off ∧ s.line.rx = none ∧ s.tb.armed = false
      ∧ s.sched.phase = .none ∧ s.sched.cycle = 0
      ∧ s.reqs.queue = [] ∧ s.reqs.completions = []
      ∧ s.events.queue = [] ∧ s.events.lossCount = 0
      ∧ s.events.cycleFlag = false ∧ s.events.inReadyFlag = false ∧ s.events.outTakenFlag = false
      ∧ s.events.accessFlag = false
      ∧ s.images.commitPending = false ∧ s.images.inputFresh = false ∧ s.images.freshCount = 0
      ∧ s.lists.pendingSwitch = false)
    ∧ (s.clear.isSome ↔ s.sched.ctrl = .resetting ∧ s.resetLow = false)
    ∧ (s.resetLow = true → s.sched.ctrl = .resetting)

/-- The miss count agrees with the tracker's state (R130). -/
def TimeBase.TrackerHeld (t : TimeBase) : Prop :=
  match t.tracker with
  | .internal => t.missCount = 0
  | .acquiring => t.missCount = 0
  | .locked => t.missCount = 0
  | .coasting => t.missCount = 1 ∨ t.missCount = 2
  | .unlocked => t.missCount = 3

/-- Every bank's data is in canonical form (R71). -/
def Images.MemoryHeld (m : Images) : Prop :=
  (∀ k : Fin 2, Memory.wf m.outBanks[k]) ∧ ∀ k : Fin 3, Memory.wf m.inBanks[k].data

/-- WIN_ADDR is even, the output banks list no address above 1023 and the composer payload none above
119 (R71, R94, R183). -/
def State.WindowHeld (s : State) : Prop :=
  s.port.winAddr.toNat % 2 = 0
    ∧ (∀ k : Fin 2, ∀ c ∈ s.images.outBanks[k], c.1 < 1024)
    ∧ ∀ c ∈ s.reqs.payload, c.1 < 120

end Sys2Proof.Machine
end

