-- ==== Sys2Proof/Certificates/Slice0/Obligations.lean ====
section
/-! DEFINITION. The statements for the provers. Each names the rule it rests on; where a clause rests on a
choice of the model, the log entry. -/

open Sys2Proof Sys2Proof.Machine

/-! ## The step -/

/-- A step takes the command at the front of the queue and runs it with the queue's rest (log 1). -/
def Obligations.StepTakesTheFrontCommand : Prop :=
  ∀ (c : Instr) (q : List Instr) (s : State),
    s.pending = c :: q → step s = exec c { s with pending := q }

/-- Which expiries of the part's own timers are due in a state, each by its rule; one that was not taken at its
instant stays due (log 3), and those of a quiet line and of the gap do not come inside a character, be it a
transition that is discarded later (log 9, log 16). On an empty queue: one CLKIN period when none is due, the
expiry when one is due, one of them by the free choice when several are (log 2, log 4). -/
def Obligations.StepOnAnEmptyQueue : Prop :=
  ∀ s : State,
    let ran (t : Option Nat) (clocks : Nat) : Prop := ∃ n, t = some n ∧ clocks ≤ n
    let reached (e : Time) : Prop := (s.tb.time - e).toNat < 2 ^ 31
    let quiet (bits : Nat) : Prop := s.line.rx = none ∧ ran s.line.quiet (s.line.clocks bits)
    let busyIn : Prop := ∀ b, s.line.busy = some b → b ≤ s.line.clocks s.line.busyLimit.toNat
    (∀ c, c ∈ dueEvents s ↔
        (c = .bufferClearEnd ∧ s.sched.ctrl = .resetting ∧ ran s.clear 6400)
          ∨ (c = .syncoutPulseEnd ∧ ran s.tb.syncout 32)
          ∨ (c = .cycleTimerExpiry ∧ s.tb.armed = true ∧ s.tb.external = false
              ∧ ∃ e, s.tb.nextStart = some e ∧ reached e)
          ∨ (c = .syncWindowExpiry ∧ s.tb.armed = true ∧ s.tb.external = true
              ∧ (s.tb.tracker = .locked ∨ s.tb.tracker = .coasting ∨ s.tb.tracker = .unlocked)
              ∧ ∃ e, s.tb.nextStart = some e ∧ reached (e + s.tb.syncTol.zeroExtend 32))
          ∨ (c = .openingGuardEnd ∧ s.line.engine = .guard ∧ quiet s.line.guardTime.toNat ∧ busyIn
              ∧ ∃ p, s.line.piece = some p ∧ p.report = none)
          ∨ (c = .settleEnd ∧ s.line.engine = .settle ∧ quiet (s.line.charGap.toNat + 11) ∧ busyIn)
          ∨ (c = .closingGuardEnd ∧ s.line.engine = .guard ∧ quiet s.line.guardTime.toNat ∧ busyIn
              ∧ ∃ p, s.line.piece = some p ∧ p.report.isSome = true)
          ∨ (c = .busyLimitExpiry ∧ (s.line.engine = .guard ∨ s.line.engine = .settle)
              ∧ ran s.line.busy (s.line.clocks s.line.busyLimit.toNat))
          ∨ (c = .responseWindowExpiry ∧ s.line.engine = .awaitReply
              ∧ ran s.line.window (s.line.clocks s.line.respWin.toNat))
          ∨ (c = .charGapExpiry ∧ s.line.engine = .receive ∧ s.line.rx = none
              ∧ ran s.line.gap (s.line.clocks s.line.charGap.toNat)))
      ∧ (s.pending = [] →
        (dueEvents s = [] → step s = .next (passClock s))
          ∧ (∀ c, dueEvents s = [c] → step s = exec c s)
          ∧ (2 ≤ (dueEvents s).length →
              ∃ c ∈ dueEvents s, step s = exec c { s with freeCount := s.freeCount + 1 }))

/-- Every command, in every state, answers a next state, and none touches the queue of commands that
wait or the count of free choices. The queue and the count are the model's (log 1, log 4), and so is an
answer for a row that cannot come in the state (log 1) or for an ill-formed term (log 10). -/
def Obligations.EveryCommandAnswersANextState : Prop :=
  ∀ (c : Instr) (s : State),
    ∃ t, exec c s = .next t ∧ t.pending = s.pending ∧ t.freeCount = s.freeCount

/-! ## Reset -/

/-- Table 10-1's power-on column: what the registers read at the end of the RESETTING that follows a
power-on reset. -/
def Obligations.PowerOnRegisterWords : Prop :=
  ∀ s : State, ∃ a b c : State,
    exec .resetnLow s = .next a ∧ exec .resetnRelease a = .next b
      ∧ exec .bufferClearEnd { b with clear := some 6400 } = .next c
      ∧ c.regWord .ident = 0x3204#16 ∧ c.regWord .state = 0x0001#16
      ∧ c.regWord .command = 0 ∧ c.regWord .result = 0 ∧ c.regWord .intStatus = 0
      ∧ c.regWord .intEnable = 0 ∧ c.regWord .timeHi = 0 ∧ c.regWord .cycle = 0
      ∧ c.regWord (.config .periodLo) = 0x2710#16 ∧ c.regWord (.config .periodHi) = 0
      ∧ c.regWord (.config .reserve) = 0x0064#16 ∧ c.regWord .syncMode = 0
      ∧ c.regWord (.config .syncTol) = 0x0032#16 ∧ c.regWord (.config .lineMode) = 0x0003#16
      ∧ c.regWord (.config .respWin) = 0x0028#16 ∧ c.regWord (.config .charGap) = 0x0004#16
      ∧ c.regWord (.config .guardTime) = 0x000B#16 ∧ c.regWord (.config .busyLimit) = 0x03E8#16
      ∧ c.regWord (.config .freshLimit) = 0 ∧ c.regWord .freshCount = 0
      ∧ c.regWord .evtInfo = 0 ∧ c.regWord .queueInfo = 0 ∧ c.regWord .stnSel = 0
      ∧ c.regWord (.station .stnAddr) = 0x0001#16 ∧ c.regWord (.station .stnOut) = 0
      ∧ c.regWord (.station .stnIn) = 0 ∧ c.regWord (.station .stnLimits) = 0x1003#16
      ∧ c.regWord .stnStatus = 0 ∧ c.regWord .stnGood = 0 ∧ c.regWord .stnMissed = 0
      ∧ c.regWord .stnErrored = 0 ∧ c.regWord .stnTimeLo = 0 ∧ c.regWord .stnTimeHi = 0
      ∧ c.regWord .stnLastcyc = 0 ∧ c.regWord .listSel = 0 ∧ c.regWord .listEntry = 0x0020#16
      ∧ c.regWord .listLen = 0 ∧ c.regWord .listInfo = 0
      ∧ (∀ r, c.regWord (.composer r) = 0) ∧ c.regWord .lcntSel = 0 ∧ c.regWord .lcntVal = 0
      ∧ c.regWord .winAddr = 0

/-- R42: what power-on reset makes of every station record. -/
def Obligations.PowerOnResetSetsEveryStationRecord : Prop :=
  ∀ s : State, ∃ t, exec .resetnLow s = .next t
    ∧ (∀ i : Slot, t.station i =
        { address := BitVec.ofNat 6 (i.val + 1), outLen := 0, outOffset := 0, inLen := 0, inOffset := 0,
          missLimit := 3, probeInterval := 16, enabled := false, health := .offline,
          consecutiveMiss := 0, toggle := false, lastReady := false, lastAlarm := false,
          goodReplies := 0, missed := 0, errored := 0, lastReplyTime := 0, lastReplyCycle := 0,
          probeCountdown := 0 })
    ∧ t.port.stnSel = 0 ∧ t.TableHeld ∧ t.HealthHeld

/-- RESETn low at any moment gives the power-on values; while it is low nothing but its release changes them,
the bus is not answered and the pins rest; at the release the buffer memory clear begins. Of the power-on
values, the buffer memory before the clear (log 6), the word last driven on the bus (log 7) and the line
timers and working fields (log 12) are the model's. -/
def Obligations.ResetnLowHoldsEveryBlock : Prop :=
  (∀ s : State,
      exec .resetnLow s = .next { State.powerOn with pending := s.pending, freeCount := s.freeCount })
    ∧ ∀ s : State, (∃ q n, s = { State.powerOn with pending := q, freeCount := n }) →
        (∀ c, c ≠ .resetnRelease → exec c s = .next s)
          ∧ (s.pending = [] → step s = .next s)
          ∧ s.sched.ctrl = .resetting ∧ s.tb.time = 0 ∧ s.tb.prescaler = 0
          ∧ s.de = false ∧ s.txd = true ∧ s.syncoutHigh = false ∧ s.intnLow = false
          ∧ s.events.queue = [] ∧ s.reqs.completions = []
          ∧ exec .resetnRelease s = .next { s with resetLow := false, clear := some 0 }

/-- R158: the clear begins at the release of RESETn and at SOFT_RESET, takes 6400 CLKIN periods, zeroes
the buffer memory and ends in CONFIG with the line OFF, the Time Base disarmed and the phase NONE; a low
RESETn abandons it; RESETTING ends in no other state. -/
def Obligations.BufferClearEndsResetting : Prop :=
  (∀ s : State, s.resetLow = true →
      exec .resetnRelease s = .next { s with resetLow := false, clear := some 0 })
    ∧ (∀ (s : State) (arg : Byte), s.serves →
        ∃ t, exec (.softReset arg) s = .next t ∧ t.clear = some 0 ∧ t.sched.ctrl = .resetting)
    ∧ ∀ (s : State) (n : Nat), s.ResetHeld → s.sched.ctrl = .resetting → s.clear = some n →
        (n < 6400 → exec .bufferClearEnd s = .next s)
          ∧ (passClock s).clear = some (n + 1)
          ∧ (6400 ≤ n → ∃ t, exec .bufferClearEnd s = .next t
              ∧ t = { s with
                  images.outBanks := Vector.replicate 2 [], images.inBanks := Vector.replicate 3 {},
                  reqs.payload := [], clear := none, sched.ctrl := .config }
              ∧ t.line.engine = .off ∧ t.tb.armed = false ∧ t.sched.phase = .none
              ∧ t.reqs.completions = [] ∧ t.events.queue = [])
          ∧ (∃ t, exec .resetnLow s = .next t ∧ t.clear = none ∧ t.sched.ctrl = .resetting)
          ∧ ∀ t, step s = .next t → t.sched.ctrl = .resetting ∨ t.sched.ctrl = .config

/-- R159: during RESETTING every read returns 0 and does nothing else, every write and every command
changes nothing, and INTn is released. -/
def Obligations.ResettingTakesNoAccess : Prop :=
  ∀ s : State, s.ResetHeld → s.resetLow = false → s.sched.ctrl = .resetting →
    (∀ c : Instr, c.isRead = true → exec c s = .next (s.driving 0))
      ∧ (∀ c : Instr, c.commandBytes.isSome = true → exec c s = .next s)
      ∧ (∀ c : Instr, c.isAccess = true → c.isRead = false → exec c s = .next s)
      ∧ s.intStatus = 0 ∧ s.intnLow = false

/-! ## Commands and their results -/

/-- Every command that is taken replaces COMMAND and RESULT, and one that is refused changes nothing else;
a code that is no command is refused UNKNOWN_COMMAND, and the commands that Table 8-4 does not allow in
the controller state are refused WRONG_STATE. -/
def Obligations.CommandsRecordTheirResult : Prop :=
  (∀ (i : Instr) (code arg : Byte) (s : State), i.commandBytes = some (code, arg) → s.serves →
      ∃ t, exec i s = .next t ∧ t.port.command = arg ++ code ∧ t.port.resultCommand = code
        ∧ (t.port.resultCode ≠ .accepted → t = s.answered code arg t.port.resultCode))
    ∧ (∀ (code arg : Byte) (s : State), code ∉ commandCodes → s.serves →
        exec (.unknownCommand code arg) s = .next (s.answered code arg .unknownCommand))
    ∧ ∀ (s : State) (arg : Byte), s.serves →
      (s.sched.ctrl ≠ .config → exec (.start arg) s = .next (s.answered 0x01 arg .wrongState))
        ∧ (s.sched.ctrl ≠ .running → exec (.stop arg) s = .next (s.answered 0x02 arg .wrongState))
        ∧ (s.sched.ctrl ≠ .faulted →
            exec (.clearFault arg) s = .next (s.answered 0x03 arg .wrongState))
        ∧ (s.sched.ctrl = .stopping →
            exec (.switchList arg) s = .next (s.answered 0x20 arg .wrongState))
        ∧ (s.sched.ctrl = .faulted →
            exec (.commitOutputs arg) s = .next (s.answered 0x30 arg .wrongState))

/-- START in CONFIG: BAD_ARGUMENT while a stored value is out of range, then BUDGET unless BUDGET_OFF is
set or the list that will be ACTIVE fits, else the effects of R163 and nothing more. -/
def Obligations.StartJudgesAndBeginsTheRun : Prop :=
  ∀ (s : State) (arg : Byte), s.serves → s.sched.ctrl = .config →
    let inRange := s.line.rateCode.toNat ≤ 5
      ∧ (8 ≤ s.line.respWin.toNat ∧ s.line.respWin.toNat ≤ 255)
      ∧ (1 ≤ s.line.charGap.toNat ∧ s.line.charGap.toNat ≤ 63)
      ∧ (2 ≤ s.line.guardTime.toNat ∧ s.line.guardTime.toNat ≤ 63)
      ∧ 100 ≤ s.line.busyLimit.toNat
      ∧ (100 ≤ s.tb.period.toNat ∧ s.tb.period.toNat ≤ 1000000)
      ∧ s.tb.reserve.toNat ≤ 1000
    let upcoming := if s.lists.pendingSwitch then s.lists.shadowList else s.lists.activeList
    let fits := s.line.budgetOff = true ∨ s.listFits none upcoming = true
    (¬ inRange → exec (.start arg) s = .next (s.answered 0x01 arg .badArgument))
      ∧ (inRange → ¬ fits → exec (.start arg) s = .next (s.answered 0x01 arg .budget))
      ∧ (inRange → fits → ∃ t, exec (.start arg) s = .next t
          ∧ t.port = (s.answered 0x01 arg .accepted).port
          ∧ t.sched = { s.sched with cycle := 0, phase := .awaitFirst, ctrl := .running }
          ∧ t.reqs = { s.reqs with queue := s.reqs.queue.map fun r => { r with postedCycle := 0 } }
          ∧ t.lists =
              (if s.lists.pendingSwitch then
                { s.lists with active := !s.lists.active, pendingSwitch := false }
              else s.lists)
          ∧ t.events =
              (if s.lists.pendingSwitch then
                (notify .listSwitched 0xFF 0 (if s.lists.active then 0 else 1) s).events
              else s.events)
          ∧ (∀ i, t.station i =
              if (s.station i).enabled then
                { s.station i with health := .seeking, consecutiveMiss := 0, probeCountdown := 0 }
              else s.station i)
          ∧ t.line = { s.line with engine := .idle, quiet := some 0, collisionRun := 0 }
          ∧ t.tb =
              { s.tb with
                armed := true, missCount := 0
                nextStart :=
                  if s.tb.external then none else some (s.tb.time + s.tb.period.zeroExtend 32)
                tracker := if s.tb.external then .acquiring else .internal }
          ∧ t.images = s.images ∧ t.resetLow = s.resetLow ∧ t.clear = s.clear)

/-- STOP in RUNNING: STOPPING with a held start discarded while the line holds a piece; with none the
draining ends at the write: the engine OFF with its timers stopped, its configuration and counters kept. -/
def Obligations.StopBeginsOrEndsTheDraining : Prop :=
  ∀ (s : State) (arg : Byte), s.serves → s.sched.ctrl = .running →
    (s.line.piece.isSome = true →
        exec (.stop arg) s =
          .next ({ s with sched.ctrl := .stopping, sched.held := none }.answered 0x02 arg .accepted))
      ∧ (s.line.piece = none →
        ∃ t : State, exec (.stop arg) s = .next (t.answered 0x02 arg .accepted)
          ∧ t.line = { s.line with
              engine := .off, piece := none, quiet := none, busy := none, window := none, gap := none
              rx := none, rxBuf := [] }
          ∧ t.sched = { s.sched with ctrl := .config, phase := .none, held := none }
          ∧ t.tb = { s.tb with armed := false }
          ∧ t.port = s.port ∧ t.stations = s.stations ∧ t.lists = s.lists ∧ t.images = s.images
          ∧ t.reqs = s.reqs ∧ t.events = s.events ∧ t.clear = s.clear ∧ t.resetLow = s.resetLow)

/-- R167: CLEAR_FAULT makes FAULTED CONFIG and changes nothing else; elsewhere it is refused
WRONG_STATE; the FAULT source becomes inactive; START in FAULTED is refused. -/
def Obligations.ClearFaultEndsFaulted : Prop :=
  ∀ (s : State) (arg : Byte), s.serves →
    (s.sched.ctrl = .faulted →
        exec (.clearFault arg) s =
            .next ({ s with sched.ctrl := .config }.answered 0x03 arg .accepted)
          ∧ ({ s with sched.ctrl := .config }.answered 0x03 arg .accepted).intStatus.getLsbD 2 = false
          ∧ exec (.start arg) s = .next (s.answered 0x01 arg .wrongState)
          ∧ ∀ r w, exec (.configRegisterWrite r w) s = .next s.withAccess)
      ∧ (s.sched.ctrl = .config ∨ s.sched.ctrl = .running ∨ s.sched.ctrl = .stopping →
        exec (.clearFault arg) s = .next (s.answered 0x03 arg .wrongState))

/-- SOFT_RESET resets every block as its chapter gives, keeps what its chapter keeps, and begins the
RESETTING that follows. That the banks, the records and the composer payload stand unchanged at this instant
is the model's (log 6), and so are the working fields of the line and the walk position (log 12); the default
roles at this instant follow R90 where R81 lets a bank cut short keep FILL (log 21). -/
def Obligations.SoftResetResetsEveryBlock : Prop :=
  ∀ (s : State) (arg : Byte), s.serves → ∃ t, exec (.softReset arg) s = .next t
    ∧ t.port = (s.answered 0x0F arg .accepted).port
    ∧ t.resetLow = s.resetLow ∧ t.clear = some 0
    ∧ t.line = { s.line with
        engine := .off, piece := none, quiet := none, busy := none, window := none, gap := none
        rx := none, rxBuf := [], counters := Vector.replicate 13 0, collisionRun := 0 }
    ∧ t.tb = { s.tb with
        armed := false, nextStart := none, missCount := 0
        tracker := if s.tb.external then .acquiring else .internal }
    ∧ t.sched = { ctrl := .resetting, phase := .none, cycle := 0, walkPos := 0, held := none }
    ∧ t.lists = { s.lists with pendingSwitch := false }
    ∧ t.images = { s.images with
        live := 0, staged := 1, fill := 0, ready := 1, heldBank := 2, commitPending := false,
        inputFresh := false, freshCount := 0 }
    ∧ (∀ i, t.station i = { s.station i with
        health := if (s.station i).enabled then .seeking else .offline
        consecutiveMiss := 0, probeCountdown := 0, toggle := false, lastReady := false,
        lastAlarm := false, goodReplies := 0, missed := 0, errored := 0, lastReplyTime := 0,
        lastReplyCycle := 0 })
    ∧ t.reqs = { s.reqs with composer := {}, queue := [], completions := [] }
    ∧ t.events = { s.events with
        queue := [], lossCount := 0, cycleFlag := false, inReadyFlag := false,
        outTakenFlag := false, accessFlag := false }

/-! ## Stations -/

/-- ENABLE_STATION's checks in the order of R26, each with its result code, and the record it leaves:
the area check of R27, the address check of R28, the overlap check of R29, the budget of R30. -/
def Obligations.EnableStationJudgesAndEnables : Prop :=
  ∀ (s : State) (arg : Byte), s.serves →
    (32 ≤ arg.toNat → exec (.enableStation arg) s = .next (s.answered 0x10 arg .badArgument))
      ∧ ∀ i : Slot, arg.toNat = i.val →
        let r := s.station i
        let fit := r.outOffset.toNat + r.outLen.toNat ≤ 1024 ∧ r.inOffset.toNat + r.inLen.toNat ≤ 1024
        let addressTaken := ∃ j, j ≠ i ∧ (s.station j).enabled = true
          ∧ (s.station j).address = r.address
        let areaTaken := ∃ j, j ≠ i ∧ (s.station j).enabled = true
          ∧ ((∃ a, r.outOffset.toNat ≤ a ∧ a < r.outOffset.toNat + r.outLen.toNat
                ∧ (s.station j).outOffset.toNat ≤ a
                ∧ a < (s.station j).outOffset.toNat + (s.station j).outLen.toNat)
              ∨ ∃ a, r.inOffset.toNat ≤ a ∧ a < r.inOffset.toNat + r.inLen.toNat
                ∧ (s.station j).inOffset.toNat ≤ a
                ∧ a < (s.station j).inOffset.toNat + (s.station j).inLen.toNat)
        let budgetOk := s.line.budgetOff = true
          ∨ (s.listFits (some i) s.lists.activeList = true
              ∧ (s.lists.pendingSwitch = true → s.listFits (some i) s.lists.shadowList = true))
        (r.enabled = true → exec (.enableStation arg) s = .next (s.answered 0x10 arg .wrongState))
          ∧ (r.enabled = false → ¬ fit →
              exec (.enableStation arg) s = .next (s.answered 0x10 arg .badArgument))
          ∧ (r.enabled = false → fit → addressTaken →
              exec (.enableStation arg) s = .next (s.answered 0x10 arg .addressInUse))
          ∧ (r.enabled = false → fit → ¬ addressTaken → areaTaken →
              exec (.enableStation arg) s = .next (s.answered 0x10 arg .overlap))
          ∧ (r.enabled = false → fit → ¬ addressTaken → ¬ areaTaken → ¬ budgetOk →
              exec (.enableStation arg) s = .next (s.answered 0x10 arg .budget))
          ∧ (r.enabled = false → fit → ¬ addressTaken → ¬ areaTaken → budgetOk →
              exec (.enableStation arg) s =
                .next ((s.setStation i
                  { r with
                    enabled := true, health := .seeking, consecutiveMiss := 0, probeCountdown := 0,
                    toggle := false, lastReady := false, lastAlarm := false }).answered
                  0x10 arg .accepted))

/-- DISABLE_STATION: its refusals, the record it leaves, and the marks on the exchange or the attempt for
the slot that is on the line. -/
def Obligations.DisableStationDisablesAndMarks : Prop :=
  ∀ (s : State) (arg : Byte), s.serves →
    (32 ≤ arg.toNat → exec (.disableStation arg) s = .next (s.answered 0x11 arg .badArgument))
      ∧ ∀ i : Slot, arg.toNat = i.val →
        ((s.station i).enabled = false →
            exec (.disableStation arg) s = .next (s.answered 0x11 arg .wrongState))
          ∧ ((s.station i).enabled = true → ∃ t, exec (.disableStation arg) s = .next t
              ∧ t.port = (s.answered 0x11 arg .accepted).port
              ∧ t.station i =
                  { s.station i with
                    enabled := false, health := .offline, consecutiveMiss := 0, probeCountdown := 0 }
              ∧ (∀ j, j ≠ i → t.station j = s.station j)
              ∧ (∀ p, s.line.piece = some p →
                  ∃ p', t.line.piece = some p' ∧ p'.work = p.work ∧ p'.frame = p.frame
                    ∧ p'.toggleSent = p.toggleSent ∧ p'.report = p.report
                    ∧ p'.discard =
                        match p.work with
                        | .exchange j _ _ _ _ _ => p.discard || j == i
                        | .sync _ => p.discard
                        | .attempt _ _ _ _ => p.discard)
              ∧ (s.line.piece = none → t.line.piece = none)
              ∧ t.reqs.queue =
                  (match s.reqs.queue with
                  | [] => []
                  | r :: q =>
                    if r.inFlight = true ∧ s.attemptOnLine = true ∧ r.slot = i then
                      { r with disabledDuring := true } :: q
                    else r :: q)
              ∧ t.reqs.completions = s.reqs.completions ∧ t.reqs.composer = s.reqs.composer
              ∧ t.reqs.payload = s.reqs.payload
              ∧ t.tb = s.tb ∧ t.sched = s.sched ∧ t.lists = s.lists ∧ t.images = s.images
              ∧ t.events = s.events ∧ t.clear = s.clear ∧ t.resetLow = s.resetLow
              ∧ { t.line with piece := s.line.piece } = s.line)

/-- R34: CLEAR_COUNTERS clears a slot's three counters, or the line counters for 0xFF, or is refused. -/
def Obligations.ClearCountersClears : Prop :=
  ∀ (s : State) (arg : Byte), s.serves →
    (∀ i : Slot, arg.toNat = i.val →
        exec (.clearCounters arg) s =
          .next ((s.setStation i { s.station i with goodReplies := 0, missed := 0, errored := 0 }).answered
            0x12 arg .accepted))
      ∧ (arg = 0xFF#8 →
          exec (.clearCounters arg) s =
            .next ({ s with line.counters := Vector.replicate 13 0 }.answered 0x12 arg .accepted))
      ∧ (32 ≤ arg.toNat → arg ≠ 0xFF#8 →
          exec (.clearCounters arg) s = .next (s.answered 0x12 arg .badArgument))

/-! ## Lists and images -/

/-- SWITCH_LIST's refusals in the order of R51, and its effect: a pending switch in RUNNING, an exchange of
roles at the write in CONFIG and FAULTED. -/
def Obligations.SwitchListSwitchesOrWaits : Prop :=
  ∀ (s : State) (arg : Byte), s.serves → s.sched.ctrl ≠ .stopping →
    let fits := s.line.budgetOff = true ∨ s.listFits none s.lists.shadowList = true
    (s.lists.pendingSwitch = true →
        exec (.switchList arg) s = .next (s.answered 0x20 arg .pending))
      ∧ (s.lists.pendingSwitch = false → ¬ fits →
          exec (.switchList arg) s = .next (s.answered 0x20 arg .budget))
      ∧ (s.lists.pendingSwitch = false → fits → s.sched.ctrl = .running →
          exec (.switchList arg) s =
            .next ({ s with lists.pendingSwitch := true }.answered 0x20 arg .accepted))
      ∧ (s.lists.pendingSwitch = false → fits → s.sched.ctrl ≠ .running →
          exec (.switchList arg) s =
              .next ({ s with lists.active := !s.lists.active }.answered 0x20 arg .accepted)
            ∧ ({ s with lists.active := !s.lists.active } : State).lists.activeList
                = s.lists.shadowList
            ∧ ({ s with lists.active := !s.lists.active } : State).lists.shadowList
                = s.lists.activeList)

/-- COMMIT_OUTPUTS sets the commit-pending flag, or is refused PENDING while it is set; while it is set the
STAGED bank and its contents do not change. -/
def Obligations.CommitOutputsFreezesStaged : Prop :=
  (∀ (s : State) (arg : Byte), s.serves → s.sched.ctrl ≠ .faulted →
      (s.images.commitPending = true →
          exec (.commitOutputs arg) s = .next (s.answered 0x30 arg .pending))
        ∧ (s.images.commitPending = false →
            exec (.commitOutputs arg) s =
              .next ({ s with images.commitPending := true }.answered 0x30 arg .accepted)))
    ∧ ∀ s t : State, s.ResetHeld → s.images.RolesHeld → s.images.commitPending = true →
        step s = .next t → t.images.commitPending = true →
          t.images.staged = s.images.staged ∧ t.stagedBank = s.stagedBank

/-- R84: TAKE_INPUTS exchanges READY and HELD and clears input-fresh, or is refused NO_NEW_IMAGE. -/
def Obligations.TakeInputsExchangesReadyAndHeld : Prop :=
  ∀ (s : State) (arg : Byte),
    (s.resetLow = false → s.sched.ctrl = .resetting → exec (.takeInputs arg) s = .next s)
      ∧ (s.serves →
        (s.images.inputFresh = true →
            exec (.takeInputs arg) s =
              .next ({ s with
                images.ready := s.images.heldBank, images.heldBank := s.images.ready,
                images.inputFresh := false }.answered 0x31 arg .accepted))
          ∧ (s.images.inputFresh = false →
            exec (.takeInputs arg) s = .next (s.answered 0x31 arg .noNewImage)))

/-! ## Queues -/

/-- Admission, as R98 to R103 give it for the head: QUIET with no head, with no completion place, or with
no time; a head whose station is disabled or LOST completes STATION_UNAVAILABLE, one past its deadline
EXPIRED, and the next head is examined; a head that passes has its attempt started, also where an edge that
UNLOCKED accepts comes later in the same instant (log 17). The three queue commands make it in RUNNING with
the phase QUIET. -/
def Obligations.AdmissionExaminesTheHead : Prop :=
  (∀ s : State, quietAdmission s =
      if s.sched.ctrl = .running ∧ s.sched.phase = .quiet then admission s else s)
    ∧ (∀ s : State, s.reqs.queue = [] → admission s = { s with sched.phase := .quiet })
    ∧ ∀ (s : State) (r : Request) (q : List Request), s.reqs.queue = r :: q →
      let place := r.inFlight = true ∨ s.reqs.completions.length + s.reqs.inFlight < 8
      let station := (s.station r.slot).enabled = true ∧ (s.station r.slot).health ≠ .lost
      let inTime := r.deadline = 0 ∨ (s.sched.cycle - r.postedCycle).toNat < r.deadline.toNat
      let worst := (((11 * (r.payload.length + 5) + s.line.respWin.toNat + 11 * (r.replyMax.toNat + 5)
        + (r.replyMax.toNat + 4) * s.line.charGap.toNat + s.line.guardTime.toNat)
          * bitClocks s.line.rateCode) + 31) / 32
      let fits := ∃ e, s.tb.nextStart = some e
        ∧ worst + s.tb.reserve.toNat + (if s.tb.external then s.tb.syncTol.toNat else 0)
            ≤ (e - s.tb.time).toNat
        ∧ (s.tb.external = true →
            2 * s.tb.syncTol.toNat
              < (s.tb.time - (e - s.tb.syncTol.zeroExtend 32)).toNat)
      let ended (o : ReqOutcome) : State := { s with
        reqs.queue := q
        reqs.completions := s.reqs.completions ++
          [{ tag := r.tag, outcome := o, slot := r.slot, attemptsUsed := r.attemptsUsed,
             replyLen := 0, flags := 0, replyTime := s.tb.time, cycle := s.sched.cycle,
             payload := [] }] }
      (¬ place → admission s = { s with sched.phase := .quiet })
        ∧ (place → ¬ station → admission s = admission (ended .stationUnavailable))
        ∧ (place → station → ¬ inTime → admission s = admission (ended .expired))
        ∧ (place → station → inTime → ¬ fits → admission s = { s with sched.phase := .quiet })
        ∧ (place → station → inTime → fits →
            admission s =
              handOver (.attempt r.slot (s.station r.slot).address r.service r.payload)
                { s with
                  sched.phase := .acyclic
                  reqs.queue :=
                    { r with
                      inFlight := true, attemptsUsed := r.attemptsUsed + 1,
                      disabledDuring := false } :: q })

/-- POST_REQUEST: QUEUE_FULL with 8 requests, else the composer is copied to the tail with the first
length bytes of its payload. POP_COMPLETION: EMPTY, else the head record is removed. After either, in
QUIET on a run, admission follows. -/
def Obligations.PostRequestAndPopCompletion : Prop :=
  ∀ (s : State) (arg : Byte), s.serves →
    let c := s.reqs.composer
    let posted : State := { s with
      reqs.queue := s.reqs.queue ++
        [{ tag := c.tag, slot := c.slot, service := c.service
           payload := (List.range c.length.toNat).map fun k => Memory.read s.reqs.payload k
           replyMax := c.replyMax, retryLimit := c.retryLimit, deadline := c.deadline
           postedCycle := s.sched.cycle, attemptsUsed := 0, inFlight := false,
           cancelRequested := false, disabledDuring := false }] }
    (8 ≤ s.reqs.queue.length → exec (.postRequest arg) s = .next (s.answered 0x40 arg .queueFull))
      ∧ (s.reqs.queue.length < 8 →
          exec (.postRequest arg) s = .next ((quietAdmission posted).answered 0x40 arg .accepted))
      ∧ (s.reqs.completions = [] → exec (.popCompletion arg) s = .next (s.answered 0x42 arg .empty))
      ∧ ∀ c cs, s.reqs.completions = c :: cs →
        exec (.popCompletion arg) s =
          .next ((quietAdmission { s with reqs.completions := cs }).answered 0x42 arg .accepted)

/-- CANCEL_REQUEST: the request in flight that holds the tag and is not marked is marked while its attempt
is on the line and completes CANCELLED between attempts; else the oldest queued one with the tag is
withdrawn into a free place, or COMPLETION_FULL; else NOT_FOUND. Accepted in QUIET on a run, admission
follows. -/
def Obligations.CancelRequestFindsItsRequest : Prop :=
  ∀ (s : State) (tag : Byte), s.serves → s.reqs.QueuesHeld →
    let cancelled (r : Request) : Completion :=
      { tag := r.tag, outcome := .cancelled, slot := r.slot, attemptsUsed := r.attemptsUsed,
        replyLen := 0, flags := 0, replyTime := s.tb.time, cycle := s.sched.cycle, payload := [] }
    let accepted (t : State) := Host.Outcome.next ((quietAdmission t).answered 0x41 tag .accepted)
    let found (r : Request) : Prop :=
      r.tag = tag ∧ r.inFlight = true ∧ r.cancelRequested = false
    let waits (r : Request) : Prop := r.tag = tag ∧ r.inFlight = false
    (∀ r q, s.reqs.queue = r :: q → found r → s.attemptOnLine = true →
        exec (.cancelRequest tag) s =
          accepted { s with reqs.queue := { r with cancelRequested := true } :: q })
      ∧ (∀ r q, s.reqs.queue = r :: q → found r → s.attemptOnLine = false →
          exec (.cancelRequest tag) s =
            accepted { s with
              reqs.queue := q, reqs.completions := s.reqs.completions ++ [cancelled r] })
      ∧ ((∀ r ∈ s.reqs.queue, ¬ found r) →
          (∀ a r b, s.reqs.queue = a ++ r :: b → waits r → (∀ x ∈ a, ¬ waits x) →
              (s.reqs.completions.length + s.reqs.inFlight < 8 →
                  exec (.cancelRequest tag) s =
                      accepted { s with
                        reqs.queue := a ++ b
                        reqs.completions := s.reqs.completions ++ [cancelled r] }
                    ∧ (cancelled r).attemptsUsed = 0)
                ∧ (8 ≤ s.reqs.completions.length + s.reqs.inFlight →
                  exec (.cancelRequest tag) s = .next (s.answered 0x41 tag .completionFull)))
            ∧ ((∀ r ∈ s.reqs.queue, ¬ waits r) →
                exec (.cancelRequest tag) s = .next (s.answered 0x41 tag .notFound)))

/-- R174: POP_EVENT removes the head record or is refused EMPTY; CLEAR_EVENT_LOSS zeroes the loss count;
in RESETTING neither is taken. -/
def Obligations.EventQueueCommands : Prop :=
  ∀ (s : State) (arg : Byte),
    (s.resetLow = false → s.sched.ctrl = .resetting →
        exec (.popEvent arg) s = .next s ∧ exec (.clearEventLoss arg) s = .next s)
      ∧ (s.serves →
        (s.events.queue = [] → exec (.popEvent arg) s = .next (s.answered 0x50 arg .empty))
          ∧ (∀ e es, s.events.queue = e :: es →
              exec (.popEvent arg) s =
                .next ({ s with events.queue := es }.answered 0x50 arg .accepted))
          ∧ exec (.clearEventLoss arg) s =
              .next ({ s with events.lossCount := 0 }.answered 0x51 arg .accepted))

/-! ## Registers -/

/-- What a read of a register returns: each field in its positions of Tables 10-1, 10-2 and 10-3, 0
elsewhere, with the codes of Tables 8-2, 10-2 and 10-3; the row that reads a mapped register is the model's (log 10). A write of a read-only register
or of an unmapped offset is ignored and sets ACCESS; a read of an unmapped offset returns 0 and sets it. -/
def Obligations.RegisterReadsAndUnmappedOffsets : Prop :=
  (∀ (s : State) (a : BitVec 6) (r : Reg), s.serves → regAt a = some r → r ≠ .timeLo → r ≠ .winData →
      exec (.unmappedRegisterRead a) s = .next (s.driving (s.regWord r)))
    ∧ (∀ (s : State) (a : BitVec 6) (w : Word), s.serves →
      ((Instr.registerWrite a w).wellFormed = true → exec (.registerWrite a w) s = .next s.withAccess)
        ∧ ((Instr.unmappedRegisterRead a).wellFormed = true →
            exec (.unmappedRegisterRead a) s = .next (s.withAccess.driving 0))
        ∧ (regAt a = none ↔ a ∈ unmappedOffsets))
    ∧ (∀ s : State,
      let st := s.regWord .state
      let sn := s.regWord .stnStatus
      let r := s.station s.port.stnSel
      st.extractLsb' 0 3 = s.sched.ctrl.code ∧ st.extractLsb' 3 3 = s.sched.phase.code
        ∧ st.extractLsb' 6 3 = s.tb.tracker.code
        ∧ st.getLsbD 9 =
            decide (s.images.freshLimit ≠ 0 ∧ s.images.freshLimit.toNat ≤ s.images.freshCount.toNat)
        ∧ st.getLsbD 10 = s.images.commitPending ∧ st.getLsbD 11 = s.lists.pendingSwitch
        ∧ st.getLsbD 12 = s.images.inputFresh ∧ st.extractLsb' 13 3 = 0
        ∧ sn.getLsbD 0 = r.enabled ∧ sn.extractLsb' 1 3 = r.health.code
        ∧ sn.extractLsb' 4 4 = r.consecutiveMiss ∧ sn.getLsbD 8 = r.toggle
        ∧ sn.getLsbD 9 = r.lastReady ∧ sn.getLsbD 10 = r.lastAlarm ∧ sn.extractLsb' 11 5 = 0
        ∧ s.regWord .result = s.port.resultCode.code ++ s.port.resultCommand
        ∧ s.regWord .evtInfo = s.events.lossCount ++ 0#2 ++ BitVec.ofNat 6 s.events.queue.length
        ∧ s.regWord .queueInfo =
            0#4 ++ BitVec.ofNat 4 s.reqs.completions.length ++ 0#3 ++ BitVec.ofNat 1 s.reqs.inFlight
              ++ BitVec.ofNat 4 s.reqs.queue.length
        ∧ s.regWord .command = s.port.command ∧ s.regWord .cycle = s.sched.cycle
        ∧ s.regWord .freshCount = 0#8 ++ s.images.freshCount
        ∧ s.regWord .stnSel = BitVec.ofNat 16 s.port.stnSel.val
        ∧ s.regWord .stnGood = r.goodReplies ∧ s.regWord .stnMissed = r.missed
        ∧ s.regWord .stnErrored = r.errored
        ∧ s.regWord .stnTimeLo = r.lastReplyTime.extractLsb' 0 16
        ∧ s.regWord .stnTimeHi = r.lastReplyTime.extractLsb' 16 16
        ∧ s.regWord .stnLastcyc = r.lastReplyCycle)
    ∧ (CtrlState.resetting.code = 0 ∧ CtrlState.config.code = 1 ∧ CtrlState.running.code = 2
      ∧ CtrlState.stopping.code = 3 ∧ CtrlState.faulted.code = 4)
    ∧ (Phase.none.code = 0 ∧ Phase.awaitFirst.code = 1 ∧ Phase.sync.code = 2 ∧ Phase.cyclic.code = 3
      ∧ Phase.acyclic.code = 4 ∧ Phase.quiet.code = 5)
    ∧ (TrackerState.internal.code = 0 ∧ TrackerState.acquiring.code = 1 ∧ TrackerState.locked.code = 2
      ∧ TrackerState.coasting.code = 3 ∧ TrackerState.unlocked.code = 4)
    ∧ (Health.offline.code = 0 ∧ Health.seeking.code = 1 ∧ Health.active.code = 2
      ∧ Health.suspect.code = 3 ∧ Health.lost.code = 4)
    ∧ ResultCode.accepted.code = 0x00 ∧ ResultCode.wrongState.code = 0x01
    ∧ ResultCode.badArgument.code = 0x02 ∧ ResultCode.addressInUse.code = 0x03
    ∧ ResultCode.overlap.code = 0x04 ∧ ResultCode.budget.code = 0x05
    ∧ ResultCode.pending.code = 0x06 ∧ ResultCode.noNewImage.code = 0x07
    ∧ ResultCode.queueFull.code = 0x08 ∧ ResultCode.completionFull.code = 0x09
    ∧ ResultCode.empty.code = 0x0A ∧ ResultCode.notFound.code = 0x0B
    ∧ ResultCode.unknownCommand.code = 0x0C

/-- R177: what INT_STATUS reads, and what a write of it clears. -/
def Obligations.IntStatusReadsAndClears : Prop :=
  (∀ s : State,
      (s.regWord .intStatus).getLsbD 0 = !s.events.queue.isEmpty
        ∧ (s.regWord .intStatus).getLsbD 1 = !s.reqs.completions.isEmpty
        ∧ (s.regWord .intStatus).getLsbD 2 = (s.sched.ctrl == .faulted)
        ∧ (s.regWord .intStatus).getLsbD 3 = s.events.cycleFlag
        ∧ (s.regWord .intStatus).getLsbD 4 = s.events.inReadyFlag
        ∧ (s.regWord .intStatus).getLsbD 5 = s.events.outTakenFlag
        ∧ (s.regWord .intStatus).getLsbD 6 = s.events.accessFlag
        ∧ (s.regWord .intStatus).extractLsb' 7 9 = 0
        ∧ (readReg .intStatus s).2 = s)
    ∧ ∀ (s : State) (w : Word), s.serves →
      (w.extractLsb' 7 9 = 0 →
          exec (.intStatusWrite w) s = .next { s with
            events.cycleFlag := s.events.cycleFlag && !w.getLsbD 3
            events.inReadyFlag := s.events.inReadyFlag && !w.getLsbD 4
            events.outTakenFlag := s.events.outTakenFlag && !w.getLsbD 5
            events.accessFlag := s.events.accessFlag && !w.getLsbD 6 })
        ∧ (w.extractLsb' 7 9 ≠ 0 → exec (.intStatusWrite w) s = .next s.withAccess)

/-- R178: a write of INT_ENABLE stores the seven enables or is ignored whole; INTn is low exactly while
some source is active or set, and enabled. -/
def Obligations.IntEnableStoresAndIntnFollows : Prop :=
  ∀ (s : State) (w : Word), s.serves →
    (w.extractLsb' 7 9 = 0 →
        exec (.intEnableWrite w) s = .next { s with events.intEnable := w.extractLsb' 0 7 })
      ∧ (w.extractLsb' 7 9 ≠ 0 → exec (.intEnableWrite w) s = .next s.withAccess)
      ∧ (s.regWord .intEnable).extractLsb' 0 7 = s.events.intEnable
      ∧ (s.regWord .intEnable).extractLsb' 7 9 = 0
      ∧ (s.intnLow = true ↔
          ∃ k, k < 7 ∧ s.intStatus.getLsbD k = true ∧ s.events.intEnable.getLsbD k = true)

/-- The selection of a slot, and R22's writes of the four station configuration registers: taken whole
when the selected station is disabled and every field is in range, else ignored with ACCESS. -/
def Obligations.StationRegistersSelectAndConfigure : Prop :=
  ∀ (s : State) (w : Word), s.serves →
    let r := s.station s.port.stnSel
    let put (q : Station) := Host.Outcome.next (ρ := Refusal) (φ := Fault) (s.setStation s.port.stnSel q)
    let ignored := Host.Outcome.next (ρ := Refusal) (φ := Fault) s.withAccess
    (∀ i : Slot, w.toNat = i.val →
        exec (.stnSelWrite w) s = .next { s with port.stnSel := i })
      ∧ (32 ≤ w.toNat → exec (.stnSelWrite w) s = ignored)
      ∧ (r.enabled = true → ∀ c, exec (.stationConfigWrite c w) s = ignored)
      ∧ (r.enabled = false →
          (exec (.stationConfigWrite .stnAddr w) s =
              if 1 ≤ w.toNat ∧ w.toNat ≤ 63 then put { r with address := w.extractLsb' 0 6 }
              else ignored)
            ∧ (exec (.stationConfigWrite .stnOut w) s =
              if w.toNat / 1024 ≤ 32 then
                put { r with outLen := w.extractLsb' 10 6, outOffset := w.extractLsb' 0 10 }
              else ignored)
            ∧ (exec (.stationConfigWrite .stnIn w) s =
              if w.toNat / 1024 ≤ 32 then
                put { r with inLen := w.extractLsb' 10 6, inOffset := w.extractLsb' 0 10 }
              else ignored)
            ∧ (exec (.stationConfigWrite .stnLimits w) s =
              if w.extractLsb' 0 4 ≠ 0 ∧ w.extractLsb' 4 4 = 0 ∧ w.extractLsb' 8 8 ≠ 0 then
                put { r with missLimit := w.extractLsb' 0 4, probeInterval := w.extractLsb' 8 8 }
              else ignored))
      ∧ s.regWord (.station .stnAddr) = 0#10 ++ r.address
      ∧ s.regWord (.station .stnOut) = r.outLen ++ r.outOffset
      ∧ s.regWord (.station .stnIn) = r.inLen ++ r.inOffset
      ∧ s.regWord (.station .stnLimits) = r.probeInterval ++ 0#4 ++ r.missLimit

/-- R46: LIST_SEL takes 0 to 63 and nothing but its own write and power-on reset changes it; LIST_INFO is
read-only and shows the lists as they stand. -/
def Obligations.ListSelAndListInfo : Prop :=
  (∀ (s : State) (w : Word), s.serves →
      (w.toNat ≤ 63 →
          exec (.listSelWrite w) s = .next { s with port.listSel := w.extractLsb' 0 6 })
        ∧ (63 < w.toNat → exec (.listSelWrite w) s = .next s.withAccess)
        ∧ exec (.registerWrite 0x2B#6 w) s = .next s.withAccess)
    ∧ (∀ s : State, s.regWord .listSel = 0#10 ++ s.port.listSel
        ∧ (s.regWord .listInfo).getLsbD 0 = s.lists.active
        ∧ (s.regWord .listInfo).getLsbD 1 = s.lists.pendingSwitch
        ∧ (s.regWord .listInfo).extractLsb' 2 7 = s.lists.activeList.len
        ∧ (s.regWord .listInfo).extractLsb' 9 7 = s.lists.shadowList.len)
    ∧ (∀ s, ∃ t, exec .resetnLow s = .next t ∧ t.port.listSel = 0)
    ∧ ∀ (c : Instr) (s t : State), c.wellFormed = true → c ≠ .resetnLow →
        (∀ w, c ≠ .listSelWrite w) → exec c s = .next t → t.port.listSel = s.port.listSel

/-- R47: a write of LIST_ENTRY stores slot, divisor and phase at the selected position of the SHADOW list
when no switch is pending, the divisor is 1 to 16 and the phase is below it; else it is ignored. -/
def Obligations.ListEntryStoresAtThePosition : Prop :=
  ∀ (s : State) (w : Word), s.serves →
    let e : ListEntry :=
      { slot := (w.extractLsb' 0 5).toFin, divisor := w.extractLsb' 5 5, phase := w.extractLsb' 10 4 }
    let valid := w.toNat < 16384 ∧ 1 ≤ e.divisor.toNat ∧ e.divisor.toNat ≤ 16
      ∧ e.phase.toNat < e.divisor.toNat
    (s.lists.pendingSwitch = false → valid →
        ∃ t, exec (.listEntryWrite w) s = .next t
          ∧ t = { s with lists := t.lists }
          ∧ t.lists.activeList = s.lists.activeList ∧ t.lists.active = s.lists.active
          ∧ t.lists.pendingSwitch = false ∧ t.lists.shadowList.len = s.lists.shadowList.len
          ∧ ∀ k : Fin 64, t.lists.shadowList.entries[k] =
              if k.val = s.port.listSel.toNat then e else s.lists.shadowList.entries[k])
      ∧ (s.lists.pendingSwitch = true ∨ ¬ valid →
          exec (.listEntryWrite w) s = .next s.withAccess)
      ∧ s.regWord .listEntry =
          (let x := s.lists.shadowList.entries[s.port.listSel.toFin]
           0#2 ++ x.phase ++ x.divisor ++ BitVec.ofNat 5 x.slot.val)

/-- R48: a write of LIST_LEN sets the SHADOW list's length to 0 to 64 when no switch is pending, else it is
ignored; the entries stay. -/
def Obligations.ListLenSetsTheLength : Prop :=
  ∀ (s : State) (w : Word), s.serves →
    (s.lists.pendingSwitch = false → w.toNat ≤ 64 →
        ∃ t, exec (.listLenWrite w) s = .next t
          ∧ t = { s with lists := t.lists }
          ∧ t.lists.activeList = s.lists.activeList ∧ t.lists.active = s.lists.active
          ∧ t.lists.pendingSwitch = false ∧ t.lists.shadowList.len.toNat = w.toNat
          ∧ t.lists.shadowList.entries = s.lists.shadowList.entries)
      ∧ (s.lists.pendingSwitch = true ∨ 64 < w.toNat →
          exec (.listLenWrite w) s = .next s.withAccess)
      ∧ s.regWord .listLen = 0#9 ++ s.lists.shadowList.len

/-- The composer registers: a word in its field's range is stored, every other is ignored with ACCESS; a
read returns the field. -/
def Obligations.ComposerRegistersStore : Prop :=
  ∀ (s : State) (w : Word), s.serves →
    let put (c : Composer) :=
      Host.Outcome.next (ρ := Refusal) (φ := Fault) { s with reqs.composer := c }
    let ignored := Host.Outcome.next (ρ := Refusal) (φ := Fault) s.withAccess
    let c := s.reqs.composer
    exec (.composerWrite .reqTag w) s =
        (if w.toNat ≤ 255 then put { c with tag := w.extractLsb' 0 8 } else ignored)
      ∧ (∀ i : Slot, w.toNat = i.val → exec (.composerWrite .reqSlot w) s = put { c with slot := i })
      ∧ (31 < w.toNat → exec (.composerWrite .reqSlot w) s = ignored)
      ∧ exec (.composerWrite .reqService w) s =
        (if w.toNat ≤ 127 then put { c with service := w.extractLsb' 0 7 } else ignored)
      ∧ exec (.composerWrite .reqLen w) s =
        (if w.toNat ≤ 120 then put { c with length := w.extractLsb' 0 7 } else ignored)
      ∧ exec (.composerWrite .reqReplymax w) s =
        (if w.toNat ≤ 120 then put { c with replyMax := w.extractLsb' 0 7 } else ignored)
      ∧ exec (.composerWrite .reqCtl w) s =
        (if w.extractLsb' 2 6 = 0 then
          put { c with retryLimit := w.extractLsb' 0 2, deadline := w.extractLsb' 8 8 }
        else ignored)
      ∧ s.regWord (.composer .reqTag) = 0#8 ++ c.tag
      ∧ s.regWord (.composer .reqSlot) = BitVec.ofNat 16 c.slot.val
      ∧ s.regWord (.composer .reqService) = 0#9 ++ c.service
      ∧ s.regWord (.composer .reqLen) = 0#9 ++ c.length
      ∧ s.regWord (.composer .reqReplymax) = 0#9 ++ c.replyMax
      ∧ s.regWord (.composer .reqCtl) = c.deadline ++ 0#6 ++ c.retryLimit

/-- R152: LCNT_SEL takes 0 to 12, LCNT_VAL reads the selected counter, and nothing but its own write and
power-on reset changes the selection. -/
def Obligations.LcntSelSelectsACounter : Prop :=
  (∀ (s : State) (w : Word), s.serves →
      (w.toNat ≤ 12 →
          exec (.lcntSelWrite w) s = .next { s with port.lcntSel := w.extractLsb' 0 4 })
        ∧ (12 < w.toNat → exec (.lcntSelWrite w) s = .next s.withAccess)
        ∧ exec (.registerWrite 0x39#6 w) s = .next s.withAccess)
    ∧ (∀ s : State, s.regWord .lcntSel = 0#12 ++ s.port.lcntSel
        ∧ (∀ h : s.port.lcntSel.toNat < 13, s.regWord .lcntVal = s.line.counters[s.port.lcntSel.toNat])
        ∧ (readReg .lcntVal s).2 = s)
    ∧ (∀ s, ∃ t, exec .resetnLow s = .next t ∧ t.port.lcntSel = 0)
    ∧ ∀ (c : Instr) (s t : State), c.wellFormed = true → c ≠ .resetnLow →
        (∀ w, c ≠ .lcntSelWrite w) → exec c s = .next t → t.port.lcntSel = s.port.lcntSel

/-- The line and cycle configuration registers: stored in CONFIG by their own rules, ignored with ACCESS in
RUNNING, STOPPING and FAULTED; a read returns what is stored. -/
def Obligations.ConfigurationRegistersStoreInConfig : Prop :=
  ∀ (s : State) (w : Word), s.serves →
    let next (t : State) := Host.Outcome.next (ρ := Refusal) (φ := Fault) t
    let ignored := next s.withAccess
    (s.sched.ctrl ≠ .config → (∀ r, exec (.configRegisterWrite r w) s = ignored)
        ∧ exec (.syncModeWrite w) s = ignored)
      ∧ (s.sched.ctrl = .config →
        exec (.configRegisterWrite .lineMode w) s =
            (if w.toNat ≤ 15 then
              next { s with line.rateCode := w.extractLsb' 0 3, line.budgetOff := w.getLsbD 3 }
            else ignored)
          ∧ exec (.configRegisterWrite .respWin w) s = next { s with line.respWin := w }
          ∧ exec (.configRegisterWrite .charGap w) s = next { s with line.charGap := w }
          ∧ exec (.configRegisterWrite .guardTime w) s = next { s with line.guardTime := w }
          ∧ exec (.configRegisterWrite .busyLimit w) s = next { s with line.busyLimit := w }
          ∧ exec (.configRegisterWrite .periodLo w) s =
            next { s with tb.period := s.tb.period.extractLsb' 16 4 ++ w }
          ∧ exec (.configRegisterWrite .periodHi w) s =
            (if w.toNat ≤ 15 then
              next { s with tb.period := w.extractLsb' 0 4 ++ s.tb.period.extractLsb' 0 16 }
            else ignored)
          ∧ exec (.configRegisterWrite .reserve w) s = next { s with tb.reserve := w }
          ∧ exec (.configRegisterWrite .syncTol w) s = next { s with tb.syncTol := w }
          ∧ exec (.configRegisterWrite .freshLimit w) s =
            (if w.toNat ≤ 255 then next { s with images.freshLimit := w.extractLsb' 0 8 }
            else ignored)
          ∧ exec (.syncModeWrite w) s =
            (if w.toNat ≤ 3 then
              next { s with
                tb.external := w.getLsbD 0, tb.falling := w.getLsbD 1, tb.missCount := 0
                tb.tracker := if w.getLsbD 0 then .acquiring else .internal }
            else ignored))
      ∧ s.regWord (.config .lineMode) = 0#12 ++ BitVec.ofBool s.line.budgetOff ++ s.line.rateCode
      ∧ s.regWord (.config .respWin) = s.line.respWin
      ∧ s.regWord (.config .charGap) = s.line.charGap
      ∧ s.regWord (.config .guardTime) = s.line.guardTime
      ∧ s.regWord (.config .busyLimit) = s.line.busyLimit
      ∧ s.regWord (.config .periodLo) = s.tb.period.extractLsb' 0 16
      ∧ s.regWord (.config .periodHi) = 0#12 ++ s.tb.period.extractLsb' 16 4
      ∧ s.regWord (.config .reserve) = s.tb.reserve
      ∧ s.regWord (.config .syncTol) = s.tb.syncTol
      ∧ s.regWord (.config .freshLimit) = 0#8 ++ s.images.freshLimit
      ∧ s.regWord .syncMode = 0#14 ++ BitVec.ofBool s.tb.falling ++ BitVec.ofBool s.tb.external

/-! ## The buffer window -/

/-- R183: WIN_ADDR takes the even address of a word below 0x1000; only its own write, the WIN_DATA accesses
and power-on reset change it. -/
def Obligations.WinAddrHoldsAnEvenAddress : Prop :=
  (∀ (s : State) (w : Word), s.serves →
      (w.toNat < 4096 →
          ∃ t, exec (.winAddrWrite w) s = .next t ∧ t = { s with port.winAddr := t.port.winAddr }
            ∧ t.port.winAddr.toNat = 2 * (w.toNat / 2))
        ∧ (4096 ≤ w.toNat → exec (.winAddrWrite w) s = .next s.withAccess))
    ∧ (∀ s : State, s.regWord .winAddr = 0#4 ++ s.port.winAddr)
    ∧ (∀ s, ∃ t, exec .resetnLow s = .next t ∧ t.port.winAddr = 0)
    ∧ (∀ (s : State), s.serves →
        (∃ t, exec .winDataRead s = .next t ∧ t.port.winAddr = s.port.winAddr + 2)
          ∧ ∀ w, ∃ t, exec (.winDataWrite w) s = .next t ∧ t.port.winAddr = s.port.winAddr + 2)
    ∧ ∀ (c : Instr) (s t : State), c.wellFormed = true → c ≠ .resetnLow →
        (∀ w, c ≠ .winAddrWrite w) → c ≠ .winDataRead → (∀ w, c ≠ .winDataWrite w) →
        exec c s = .next t → t.port.winAddr = s.port.winAddr

/-- A WIN_DATA read drives the two bytes at WIN_ADDR, region by region of Table 10-4, and advances
WIN_ADDR; an unmapped address reads 0 and sets ACCESS. -/
def Obligations.WindowReadsByRegion : Prop :=
  ∀ s : State, s.serves → s.port.winAddr.toNat % 2 = 0 →
    let a := s.port.winAddr.toNat
    let reads (f : Nat → Byte) : Prop :=
      exec .winDataRead s =
        .next ({ s with port.winAddr := s.port.winAddr + 2 }.driving (f (a + 1) ++ f a))
    (a < 0x400 → reads fun x => Memory.read s.images.outBanks[s.images.staged] x)
      ∧ (0x400 ≤ a → a < 0x800 →
          reads fun x => Memory.read s.images.inBanks[s.images.heldBank].data (x - 0x400))
      ∧ (∀ i : Slot, 0x800 + 16 * i.val ≤ a → a < 0x800 + 16 * i.val + 16 →
          reads fun x =>
            (s.images.inBanks[s.images.heldBank].slots[i]).bytes.getD (x - (0x800 + 16 * i.val)) 0)
      ∧ (0xA00 ≤ a → a < 0xA20 →
          reads fun x => s.images.inBanks[s.images.heldBank].summary.bytes.getD (x - 0xA00) 0)
      ∧ (0xB00 ≤ a → a < 0xB78 → reads fun x => Memory.read s.reqs.payload (x - 0xB00))
      ∧ (0xC00 ≤ a → a < 0xC10 →
          reads fun x => (s.reqs.completions.head?.map Completion.headerBytes |>.getD []).getD
            (x - 0xC00) 0)
      ∧ (0xC10 ≤ a → a < 0xC88 →
          reads fun x => (s.reqs.completions.head?.map Completion.payload |>.getD []).getD
            (x - 0xC10) 0)
      ∧ (0xD00 ≤ a → a < 0xD10 →
          reads fun x => (s.events.queue.head?.map EventRecord.bytes |>.getD []).getD (x - 0xD00) 0)
      ∧ ((0xA20 ≤ a ∧ a < 0xB00) ∨ (0xB78 ≤ a ∧ a < 0xC00) ∨ (0xC88 ≤ a ∧ a < 0xD00) ∨ 0xD10 ≤ a →
          exec .winDataRead s =
            .next ({ s with port.winAddr := s.port.winAddr + 2 }.withAccess.driving 0))

/-- A WIN_DATA write stores both bytes in the STAGED bank while no commit is pending, or in the composer
payload; anywhere else it stores nothing and sets ACCESS; WIN_ADDR advances. -/
def Obligations.WindowWritesByRegion : Prop :=
  ∀ (s : State) (w : Word), s.serves → s.port.winAddr.toNat % 2 = 0 → s.images.MemoryHeld →
    Memory.wf s.reqs.payload →
    let a := s.port.winAddr.toNat
    let stored (m m' : Memory) (k : Nat) : Prop := ∀ x, Memory.read m' x =
      if x = k then w.extractLsb' 0 8 else if x = k + 1 then w.extractLsb' 8 8 else Memory.read m x
    let ignored := exec (.winDataWrite w) s =
      .next { s with port.winAddr := s.port.winAddr + 2 }.withAccess
    (a < 0x400 → s.images.commitPending = false →
        ∃ t, exec (.winDataWrite w) s = .next t
          ∧ t = { s with
              port.winAddr := s.port.winAddr + 2, images.outBanks := t.images.outBanks }
          ∧ stored s.images.outBanks[s.images.staged] t.images.outBanks[s.images.staged] a
          ∧ ∀ k : Fin 2, k ≠ s.images.staged → t.images.outBanks[k] = s.images.outBanks[k])
      ∧ (a < 0x400 → s.images.commitPending = true → ignored)
      ∧ (0xB00 ≤ a → a < 0xB78 →
          ∃ t, exec (.winDataWrite w) s = .next t
            ∧ t = { s with port.winAddr := s.port.winAddr + 2, reqs.payload := t.reqs.payload }
            ∧ stored s.reqs.payload t.reqs.payload (a - 0xB00))
      ∧ ((0x400 ≤ a ∧ a < 0xB00) ∨ 0xB78 ≤ a → ignored)

/-- R186: the layouts of Tables 10-8 to 10-11, byte by byte; every byte a table leaves unassigned is 0. The
codes they hold: slot status, outcome, and the event codes of Table 9-1. -/
def Obligations.RecordLayouts : Prop :=
  (∀ (r : SlotStatus) (k : Nat), r.bytes.getD k 0 =
      ([r.status.code, r.replyLen, 0#4 ++ r.flags, r.callCount,
        r.replyTime.extractLsb' 0 8, r.replyTime.extractLsb' 8 8, r.replyTime.extractLsb' 16 8,
        r.replyTime.extractLsb' 24 8, r.cycle.extractLsb' 0 8, r.cycle.extractLsb' 8 8,
        0, 0, 0, 0, 0, 0] : List Byte).getD k 0)
    ∧ (∀ (r : CycleSummary) (k : Nat), r.bytes.getD k 0 =
      ([r.cycle.extractLsb' 0 8, r.cycle.extractLsb' 8 8,
        r.startTime.extractLsb' 0 8, r.startTime.extractLsb' 8 8, r.startTime.extractLsb' 16 8,
        r.startTime.extractLsb' 24 8, r.lateness.extractLsb' 0 8, r.lateness.extractLsb' 8 8,
        r.due, r.fresh, r.notReady, r.missed, r.errored, r.skipped,
        0#7 ++ BitVec.ofBool r.syncCollided, 0#7 ++ BitVec.ofBool r.activeList,
        r.endTime.extractLsb' 0 8, r.endTime.extractLsb' 8 8, r.endTime.extractLsb' 16 8,
        r.endTime.extractLsb' 24 8, 0, 0, 0, 0, 0, 0, 0, 0, 0, 0, 0, 0] : List Byte).getD k 0)
    ∧ (∀ (r : Completion) (k : Nat), r.headerBytes.getD k 0 =
      ([r.tag, r.outcome.code, BitVec.ofNat 8 r.slot.val, 0#5 ++ r.attemptsUsed, r.replyLen,
        0#4 ++ r.flags, r.cycle.extractLsb' 0 8, r.cycle.extractLsb' 8 8,
        r.replyTime.extractLsb' 0 8, r.replyTime.extractLsb' 8 8, r.replyTime.extractLsb' 16 8,
        r.replyTime.extractLsb' 24 8, 0, 0, 0, 0] : List Byte).getD k 0)
    ∧ (∀ (r : EventRecord) (k : Nat), r.bytes.getD k 0 =
      ([r.code.code, r.slot, r.cycle.extractLsb' 0 8, r.cycle.extractLsb' 8 8,
        r.time.extractLsb' 0 8, r.time.extractLsb' 8 8, r.time.extractLsb' 16 8,
        r.time.extractLsb' 24 8, r.detail.extractLsb' 0 8, r.detail.extractLsb' 8 8,
        0, 0, 0, 0, 0, 0] : List Byte).getD k 0)
    ∧ SlotCode.notCalled.code = 0 ∧ SlotCode.fresh.code = 1 ∧ SlotCode.notReady.code = 2
    ∧ SlotCode.missed.code = 3 ∧ SlotCode.errored.code = 4
    ∧ ReqOutcome.done.code = 1 ∧ ReqOutcome.refused.code = 2 ∧ ReqOutcome.oversize.code = 3
    ∧ ReqOutcome.noReply.code = 4 ∧ ReqOutcome.expired.code = 5
    ∧ ReqOutcome.stationUnavailable.code = 6 ∧ ReqOutcome.cancelled.code = 7
    ∧ ReqOutcome.lineFault.code = 8
    ∧ EventCode.stationJoined.code = 0x01 ∧ EventCode.stationSuspect.code = 0x02
    ∧ EventCode.stationLost.code = 0x03 ∧ EventCode.stationRecovered.code = 0x04
    ∧ EventCode.stationAlarm.code = 0x05 ∧ EventCode.cycleOverrun.code = 0x10
    ∧ EventCode.lateStart.code = 0x11 ∧ EventCode.syncMissed.code = 0x12
    ∧ EventCode.syncUnlocked.code = 0x13 ∧ EventCode.syncLocked.code = 0x14
    ∧ EventCode.listSwitched.code = 0x15 ∧ EventCode.outputStale.code = 0x20
    ∧ EventCode.outputResumed.code = 0x21 ∧ EventCode.lineFault.code = 0x30

/-! ## Time and cycle starts -/

/-- TIME_TICK steps TIME by 1 modulo 2^32 and begins the prescaler again, and the block's timers run on by
the CLKIN periods that were left of the microsecond; one CLKIN period by itself advances every timer by 1, and
the 32nd of a count steps TIME (log 2); while RESETn is low nothing moves. A SYNCOUT pulse ends at its row
once 32 CLKIN periods have passed and at no other row but a low RESETn. A TIME_LO read drives the low half of
TIME and copies the high half into the snapshot that TIME_HI returns; the row that reads TIME_HI is the
model's (log 10). -/
def Obligations.TimeTickPulseAndTimeReads : Prop :=
  (∀ s : State, s.resetLow = true → exec .timeTick s = .next s ∧ passClock s = s)
    ∧ (∀ s : State, s.resetLow = false →
      let passed (n : Nat) (time : Time) (prescaler : BitVec 5) : State := { s with
          clear := s.clear.map (· + n)
          tb.time := time, tb.prescaler := prescaler, tb.syncout := s.tb.syncout.map (· + n)
          line.quiet := s.line.quiet.map (· + n), line.busy := s.line.busy.map (· + n)
          line.window := s.line.window.map (· + n), line.gap := s.line.gap.map (· + n)
          line.txElapsed := s.line.txElapsed + n
          line.rx := s.line.rx.map fun c => { c with elapsed := c.elapsed + n } }
      exec .timeTick s = .next (passed (32 - s.tb.prescaler.toNat) (s.tb.time + 1) 0)
        ∧ (s.tb.prescaler = 31 → passClock s = passed 1 (s.tb.time + 1) 0)
        ∧ (s.tb.prescaler ≠ 31 → passClock s = passed 1 s.tb.time (s.tb.prescaler + 1)))
    ∧ (∀ s : State,
      (∀ n, s.tb.syncout = some n →
          (32 ≤ n → exec .syncoutPulseEnd s = .next { s with tb.syncout := none })
            ∧ (n < 32 → exec .syncoutPulseEnd s = .next s)
            ∧ s.syncoutHigh = true)
        ∧ (s.tb.syncout = none → exec .syncoutPulseEnd s = .next s ∧ s.syncoutHigh = false))
    ∧ (∀ (c : Instr) (s t : State), c ≠ .resetnLow → c ≠ .timeTick → c ≠ .syncoutPulseEnd →
        exec c s = .next t → t.tb.syncout = s.tb.syncout ∨ t.tb.syncout = some 0)
    ∧ ∀ s : State, s.serves →
      exec .timeLoRead s =
          .next ({ s with port.timeSnapshot := s.tb.time.extractLsb' 16 16 }.driving
            (s.tb.time.extractLsb' 0 16))
        ∧ exec (.unmappedRegisterRead 0x07#6) s = .next (s.driving s.port.timeSnapshot)
        ∧ ∀ w, exec (.registerWrite 0x06#6 w) s = .next s.withAccess
            ∧ exec (.registerWrite 0x07#6 w) s = .next s.withAccess

/-- The expiry of the cycle timer and the expiry of the sync window each set the next expected start one
PERIOD on from the old one, count a miss where the tracker counts one, and deliver a start; neither comes
while it is not due. A late expiry is taken when it comes (log 3). -/
def Obligations.ExpiriesDeliverGridStarts : Prop :=
  ∀ s : State,
    let period : Time := s.tb.period.zeroExtend 32
    let tol : Time := s.tb.syncTol.zeroExtend 32
    (∀ e, s.tb.nextStart = some e → s.tb.armed = true → s.tb.external = false →
        ((s.tb.time - e).toNat < 2 ^ 31 →
            exec .cycleTimerExpiry s =
              .next (answerStart e { s with tb.nextStart := some (e + period) }))
          ∧ (2 ^ 31 ≤ (s.tb.time - e).toNat → exec .cycleTimerExpiry s = .next s))
      ∧ (s.tb.armed = false ∨ s.tb.external = true ∨ s.tb.nextStart = none →
          exec .cycleTimerExpiry s = .next s)
      ∧ (∀ e, s.tb.nextStart = some e → s.tb.armed = true → s.tb.external = true →
          let generated (n : State) := Host.Outcome.next (ρ := Refusal) (φ := Fault)
            (answerStart (e + tol) { n with tb.nextStart := some (e + period) })
          let missed (n : State) := notify .syncMissed 0xFF s.sched.cycle 0 n
          ((s.tb.time - (e + tol)).toNat < 2 ^ 31 →
            ((s.tb.tracker = .locked ∨ s.tb.tracker = .coasting) → s.tb.missCount ≠ 2 →
                exec .syncWindowExpiry s =
                  generated (missed
                    { s with tb.missCount := s.tb.missCount + 1, tb.tracker := .coasting }))
              ∧ ((s.tb.tracker = .locked ∨ s.tb.tracker = .coasting) → s.tb.missCount = 2 →
                exec .syncWindowExpiry s =
                  generated (notify .syncUnlocked 0xFF s.sched.cycle 0
                    (missed { s with tb.missCount := 3, tb.tracker := .unlocked })))
              ∧ (s.tb.tracker = .unlocked → exec .syncWindowExpiry s = generated s))
            ∧ (2 ^ 31 ≤ (s.tb.time - (e + tol)).toNat → exec .syncWindowExpiry s = .next s))
      ∧ (s.tb.armed = false ∨ s.tb.external = false ∨ s.tb.nextStart = none
            ∨ s.tb.tracker = .acquiring ∨ s.tb.tracker = .internal →
          exec .syncWindowExpiry s = .next s)

/-- SYNCIN: an edge is examined while the Time Base is armed in external mode and its direction is the
selected one. ACQUIRING and UNLOCKED accept it with SYNC_LOCKED, LOCKED and COASTING accept it within the
window and count it as a stray outside. -/
def Obligations.SyncinEdgesAreAcceptedOrStray : Prop :=
  ∀ (s : State) (e : SyncEdge),
    let examined := s.tb.armed = true ∧ s.tb.external = true ∧ (s.tb.falling = true ↔ e = .falling)
    let tol : Time := s.tb.syncTol.zeroExtend 32
    let accepted (n : State) := Host.Outcome.next (ρ := Refusal) (φ := Fault)
      (answerStart s.tb.time { n with
        tb.tracker := .locked, tb.missCount := 0
        tb.nextStart := some (s.tb.time + s.tb.period.zeroExtend 32) })
    (¬ examined → exec (.syncinEdge e) s = .next s)
      ∧ (examined → (s.tb.tracker = .acquiring ∨ s.tb.tracker = .unlocked) →
          exec (.syncinEdge e) s = accepted (notify .syncLocked 0xFF s.sched.cycle 0 s))
      ∧ (examined → (s.tb.tracker = .locked ∨ s.tb.tracker = .coasting) →
          ∀ x, s.tb.nextStart = some x →
            ((s.tb.time - (x - tol)).toNat ≤ 2 * s.tb.syncTol.toNat →
                exec (.syncinEdge e) s = accepted s)
              ∧ (2 * s.tb.syncTol.toNat < (s.tb.time - (x - tol)).toNat →
                exec (.syncinEdge e) s = .next (countLine .strayEdges s)))

/-- Table 3-2: the answer to a delivered cycle start by state, phase and the start held; a held start is
taken with its lateness in microseconds, at most 65535. -/
def Obligations.CycleStartAnswers : Prop :=
  (∀ (s : State) (e : Time),
    let overrun := notify .cycleOverrun 0xFF s.sched.cycle 0 s
    (s.sched.ctrl = .running →
        (s.sched.phase = .awaitFirst ∨ s.sched.phase = .quiet → answerStart e s = takeStart e none s)
          ∧ (s.sched.phase = .sync ∨ s.sched.phase = .cyclic → answerStart e s = overrun)
          ∧ (s.sched.phase = .acyclic → s.attemptOnLine = true → s.sched.held = none →
              answerStart e s = { s with sched.held := some e })
          ∧ (s.sched.phase = .acyclic → s.attemptOnLine = true → s.sched.held.isSome = true →
              answerStart e s = overrun)
          ∧ (s.sched.phase = .acyclic → s.attemptOnLine = false →
              answerStart e s = takeStart e none s))
      ∧ (s.sched.ctrl ≠ .running → answerStart e s = s))
    ∧ ∀ (s : State) (e : Time), ∃ d : Word, d.toNat = min (s.tb.time - e).toNat 65535
        ∧ takeHeld e s = takeStart e (some d) { s with sched.held := none }

/-- The work at a taken cycle start, with everything it leaves: the cycle number, LATE_START, the list
switch, the output step, the prepared FILL bank, the probe countdowns, the phase SYNC, the SYNCOUT pulse,
the CYCLE flag and the sync frame handed over. -/
def Obligations.TakenStartDoesItsWork : Prop :=
  ∀ (s : State) (start : Time) (late : Option Word),
    let n := if s.sched.phase = .awaitFirst then s.sched.cycle else s.sched.cycle + 1
    let m := s.images
    let count := if m.freshCount = 0xFF#8 then 0xFF#8 else m.freshCount + 1
    let active := if s.lists.pendingSwitch then !s.lists.active else s.lists.active
    let e1 := match late with
      | some d => notify .lateStart 0xFF n d s
      | none => s
    let e2 := if s.lists.pendingSwitch then notify .listSwitched 0xFF n (if active then 1 else 0) e1 else e1
    let e3 :=
      if m.commitPending = true then (if m.stale then notify .outputResumed 0xFF n 0 e2 else e2)
      else if m.freshLimit ≠ 0 ∧ m.stale = false ∧ count = m.freshLimit then
        notify .outputStale 0xFF n 0 e2
      else e2
    let t := takeStart start late s
    t.sched = { s.sched with cycle := n, phase := .sync }
      ∧ t.lists = { s.lists with active := active, pendingSwitch := false }
      ∧ t.events = { e3.events with
          cycleFlag := true, outTakenFlag := s.events.outTakenFlag || m.commitPending }
      ∧ t.images = { m with
          live := if m.commitPending then m.staged else m.live
          staged := if m.commitPending then m.live else m.staged
          commitPending := false
          freshCount := if m.commitPending then 0 else count
          inBanks := m.inBanks.set m.fill
            { m.inBanks[m.fill] with
              slots := Vector.replicate 32
                { status := .notCalled, replyLen := 0, flags := 0, callCount := 0, replyTime := 0,
                  cycle := n }
              summary :=
                { cycle := n, startTime := start, lateness := late.getD 0, due := 0, fresh := 0,
                  notReady := 0, missed := 0, errored := 0, skipped := 0, syncCollided := false,
                  activeList := active, endTime := 0 } } }
      ∧ (∀ i, t.station i =
          if (s.station i).enabled = true ∧ (s.station i).health = .lost
              ∧ (s.station i).probeCountdown ≠ 0 then
            { s.station i with probeCountdown := (s.station i).probeCountdown - 1 }
          else s.station i)
      ∧ t.tb = { s.tb with syncout := some 0 }
      ∧ t.line = (handOver (.sync n) s).line
      ∧ t.reqs = s.reqs ∧ t.port = s.port ∧ t.clear = s.clear ∧ t.resetLow = s.resetLow

/-! ## The line -/

/-- A notice is stamped with TIME and appended, or lost and counted when 32 records stand; a line counter
steps at its event, FRAMES_SENT and REPLIES_GOOD wrapping and the other eleven saturating. -/
def Obligations.NoticesAndLineCounters : Prop :=
  (∀ (c : EventCode) (slot : Byte) (cycle detail : Word) (s : State),
      (s.events.queue.length < 32 →
          notify c slot cycle detail s = { s with
            events.queue := s.events.queue ++
              [{ code := c, slot := slot, cycle := cycle, time := s.tb.time, detail := detail }] })
        ∧ (32 ≤ s.events.queue.length → s.events.lossCount ≠ 255 →
          notify c slot cycle detail s = { s with events.lossCount := s.events.lossCount + 1 })
        ∧ (32 ≤ s.events.queue.length → s.events.lossCount = 255 → notify c slot cycle detail s = s))
    ∧ ∀ (c : LineCounter) (s : State),
      let k := c.index
      let w := s.line.counters[k]
      countLine c s = { s with
          line.counters := s.line.counters.set k
            (if 2 ≤ k.val ∧ w = 0xFFFF#16 then 0xFFFF#16 else w + 1) }
        ∧ (LineCounter.framesSent.index = 0 ∧ LineCounter.repliesGood.index = 1
            ∧ LineCounter.timeouts.index = 2 ∧ LineCounter.formatErrors.index = 3
            ∧ LineCounter.markErrors.index = 4 ∧ LineCounter.gapErrors.index = 5
            ∧ LineCounter.lengthErrors.index = 6 ∧ LineCounter.checkErrors.index = 7
            ∧ LineCounter.responderErrors.index = 8 ∧ LineCounter.sequenceErrors.index = 9
            ∧ LineCounter.collisions.index = 10 ∧ LineCounter.noiseChars.index = 11
            ∧ LineCounter.strayEdges.index = 12)

/-- R9: the check, and where a frame carries it. -/
def Obligations.TheCheckOfAFrame : Prop :=
  crc16 [] = 0xFFFF#16
    ∧ (∀ (bs : List Byte) (b : Byte),
        crc16 (bs ++ [b]) =
          crcBit (crcBit (crcBit (crcBit (crcBit (crcBit (crcBit (crcBit (crc16 bs)
            (b.getLsbD 7)) (b.getLsbD 6)) (b.getLsbD 5)) (b.getLsbD 4)) (b.getLsbD 3)) (b.getLsbD 2))
            (b.getLsbD 1)) (b.getLsbD 0))
    ∧ (∀ (c : Word) (b : Bool) (k : Nat), k < 16 →
        (crcBit c b).getLsbD k =
          ((decide (0 < k) && c.getLsbD (k - 1))
            ^^ ((k == 0 || k == 5 || k == 12) && (b ^^ c.getLsbD 15))))
    ∧ (∀ (h c : Byte) (p : List Byte),
        let body := [h, c, BitVec.ofNat 8 p.length] ++ p
        frameBytes h c p =
            body ++ [(crc16 body).extractLsb' 0 8, (crc16 body).extractLsb' 8 8]
          ∧ ∀ k, 0 < k → (frameChar (frameBytes h c p) k).mark = false)
    ∧ crc16 [0x31, 0x32, 0x33, 0x34, 0x35, 0x36, 0x37, 0x38, 0x39] = 0x29B1#16

/-- The budget: a list fits when the values it uses are in range and the worst case of the sync frame and
of every counted entry of an enabled slot, each in microseconds rounded up, come to at most PERIOD less
RESERVE, and less SYNC_TOL in external mode. -/
def Obligations.BudgetCountsEveryEntry : Prop :=
  ∀ (s : State) (enabling : Option Slot) (l : ExchangeList),
    let micros (bits : Nat) := (bits * bitClocks s.line.rateCode + 31) / 32
    let entry (e : ListEntry) :=
      let r := s.station e.slot
      if r.enabled = true ∨ enabling = some e.slot then
        micros (11 * (r.outLen.toNat + 5) + s.line.respWin.toNat + 11 * (r.inLen.toNat + 5)
          + (r.inLen.toNat + 4) * s.line.charGap.toNat + s.line.guardTime.toNat)
      else 0
    (s.listFits enabling l = true ↔
        (s.line.rateCode.toNat ≤ 5
          ∧ (8 ≤ s.line.respWin.toNat ∧ s.line.respWin.toNat ≤ 255)
          ∧ (1 ≤ s.line.charGap.toNat ∧ s.line.charGap.toNat ≤ 63)
          ∧ (2 ≤ s.line.guardTime.toNat ∧ s.line.guardTime.toNat ≤ 63)
          ∧ (100 ≤ s.tb.period.toNat ∧ s.tb.period.toNat ≤ 1000000)
          ∧ s.tb.reserve.toNat ≤ 1000)
        ∧ micros (121 + s.line.guardTime.toNat)
            + ((l.entries.toList.take l.len.toNat).map entry).sum
            + s.tb.reserve.toNat + (if s.tb.external then s.tb.syncTol.toNat else 0)
            ≤ s.tb.period.toNat)
      ∧ (bitClocks 0 = 8 * 32 ∧ bitClocks 1 = 4 * 32 ∧ bitClocks 2 = 2 * 32 ∧ bitClocks 3 = 32
          ∧ 2 * bitClocks 4 = 32 ∧ 4 * bitClocks 5 = 32)

/-- Handover: with the line quiet for GUARD the frame begins at once, else the opening guard holds the
piece until OPENING_GUARD_END; the frame takes the SYNC time or the toggle of the instant its header
begins, and a FIRST call resets its station's toggle there. That a transition which is discarded later holds
the guard back until its sample is the model's reading (log 9). -/
def Obligations.HandoverAndOpeningGuard : Prop :=
  ∀ s : State,
    let quiet := s.line.rx = none
      ∧ ∃ q, s.line.quiet = some q ∧ s.line.clocks s.line.guardTime.toNat ≤ q
    let sending (p : Piece) (frame : List Byte) (toggle : Bool) : State := { s with
      line.engine := .transmit, line.busy := none, line.txIndex := 0, line.txElapsed := 0
      line.piece := some { p with frame := frame, toggleSent := toggle } }
    let begins (p : Piece) (t : State) : Prop :=
      (∀ n, p.work = .sync n →
          t = sending p (frameBytes (3#2 ++ 0#6) 0
            [n.extractLsb' 0 8, n.extractLsb' 8 8, s.tb.time.extractLsb' 0 8,
              s.tb.time.extractLsb' 8 8, s.tb.time.extractLsb' 16 8, s.tb.time.extractLsb' 24 8])
            false)
        ∧ (∀ i a k first stale payload, p.work = .exchange i a k first stale payload →
          t = (if first then
              (sending p (frameBytes (0#2 ++ a) (if stale then 3 else 2) payload) false).setStation i
                { s.station i with toggle := false }
            else sending p (frameBytes (0#2 ++ a) (if stale then 1 else 0) payload) false))
        ∧ (∀ i a service payload, p.work = .attempt i a service payload →
          t = sending p (frameBytes (2#2 ++ a) (BitVec.ofBool (s.station i).toggle ++ service) payload)
            (s.station i).toggle)
    (∀ w, quiet → begins { work := w } (handOver w s))
      ∧ (∀ w, ¬ quiet → handOver w s =
          { s with line.engine := .guard, line.busy := some 0, line.piece := some { work := w } })
      ∧ (∀ p, s.line.engine = .guard → s.line.piece = some p → p.report = none → quiet →
          (∀ b, s.line.busy = some b → b ≤ s.line.clocks s.line.busyLimit.toNat) →
          ∃ t, exec .openingGuardEnd s = .next t ∧ begins p t)
      ∧ (s.line.engine ≠ .guard ∨ ¬ quiet → exec .openingGuardEnd s = .next s)

/-- An arrival begins a character and restarts the quiet timer; in AWAIT_REPLY it is the reply's header and
the engine goes to RECEIVE; a response window or a gap that is already past its time expires before it.
An arrival in TRANSMIT is an echo, also at the instant a report has let the next frame begin (log 20). The
sample at the middle of the start bit discards the transition or lets the character go on. What the quiet
timer shows after a discarded transition is the model's reading (log 9): as if the transition had never been,
or, where the timer has been restarted since, that restart. -/
def Obligations.ArrivalAndStartBitSample : Prop :=
  ∀ s : State,
    let windowPast := s.line.engine = .awaitReply
      ∧ ∃ w, s.line.window = some w ∧ s.line.clocks s.line.respWin.toNat < w
    let gapPast := s.line.engine = .receive
      ∧ ∃ g, s.line.gap = some g ∧ s.line.clocks s.line.charGap.toNat < g
    let begun (header echo : Bool) : RxChar :=
      { elapsed := 0, quietBefore := s.line.quiet, sampled := false, asHeader := header,
        asEcho := echo }
    (s.line.engine = .off ∨ s.line.rx.isSome = true → exec .rxdCharacterArrival s = .next s)
      ∧ (s.line.rx = none → ¬ windowPast → ¬ gapPast →
        (s.line.engine = .awaitReply →
            exec .rxdCharacterArrival s = .next { s with
              line.engine := .receive, line.quiet := some 0, line.rx := some (begun true false)
              line.headerTime := s.tb.time, line.rxBuf := [] })
          ∧ (s.line.engine ≠ .awaitReply → s.line.engine ≠ .off →
            exec .rxdCharacterArrival s = .next { s with
              line.quiet := some 0
              line.rx := some (begun false (s.line.engine == .transmit)) }))
      ∧ (s.line.rx = none → windowPast → ∃ t, exec .responseWindowExpiry s = .next t
          ∧ exec .rxdCharacterArrival s = exec .rxdCharacterArrival t)
      ∧ (s.line.rx = none → gapPast → ∃ t, exec .charGapExpiry s = .next t
          ∧ exec .rxdCharacterArrival s = exec .rxdCharacterArrival t)
      ∧ (∀ c, s.line.rx = some c → c.sampled = false → s.line.clocks 1 ≤ 2 * c.elapsed →
          exec (.startBitMiddleSample false) s =
              .next { s with line.rx := some { c with sampled := true } }
            ∧ exec (.startBitMiddleSample true) s = .next { s with
              line.rx := none
              line.engine :=
                if c.asHeader = true ∧ s.line.engine = .receive then .awaitReply else s.line.engine
              line.quiet :=
                match c.quietBefore with
                | some q => some (q + c.elapsed)
                | none => s.line.quiet })
      ∧ ∀ b, (s.line.rx = none
          ∨ ∃ c, s.line.rx = some c ∧ (c.sampled = true ∨ 2 * c.elapsed < s.line.clocks 1)) →
          exec (.startBitMiddleSample b) s = .next s

/-- A character completes 11 bit times after its arrival: unsolicited in IDLE and GUARD, not counted in the
other states, and in RECEIVE checked for its stop bit, its mark bit and the length, in that order, then
kept. An echo that completes after its frame is not counted (log 8). The row says that the start bit was 0,
sampled or not (log 18). -/
def Obligations.CharactersComplete : Prop :=
  ∀ (s : State) (r : RxChar) (c : LineChar), s.line.rx = some r →
    let t : State := { s with line.rx := none, line.quiet := some 0 }
    let ends (k : LineCounter) (e : RxError) := Host.Outcome.next (ρ := Refusal) (φ := Fault)
      { countLine k t with
        line.engine := .settle, line.busy := some 0, line.window := none, line.gap := none
        line.rxBuf := []
        line.piece := s.line.piece.map fun p =>
          { p with report := some { outcome := .error e, time := s.line.headerTime } } }
    let n := s.line.rxBuf.length
    let markOk := c.mark = true ↔ n = 0
    let lengthOk := ¬ (n = 2 ∧ 120 < c.data.toNat)
    (r.elapsed < s.line.clocks 11 → exec (.characterCompletion c) s = .next s)
      ∧ (s.line.clocks 11 ≤ r.elapsed →
        ((s.line.engine = .idle ∨ s.line.engine = .guard) → r.asEcho = false →
            exec (.characterCompletion c) s = .next (countLine .noiseChars t))
          ∧ (s.line.engine = .settle ∨ s.line.engine = .transmit ∨ s.line.engine = .awaitReply
              ∨ r.asEcho = true →
            exec (.characterCompletion c) s = .next t)
          ∧ (s.line.engine = .receive → r.asEcho = false →
            (c.stop = false → exec (.characterCompletion c) s = ends .formatErrors .format)
              ∧ (c.stop = true → ¬ markOk →
                  exec (.characterCompletion c) s = ends .markErrors .mark)
              ∧ (c.stop = true → markOk → ¬ lengthOk →
                  exec (.characterCompletion c) s = ends .lengthErrors .length)
              ∧ (c.stop = true → markOk → lengthOk →
                  (n < 2 ∨ n + 1 ≠ ((s.line.rxBuf ++ [c.data]).getD 2 0).toNat + 5) →
                  exec (.characterCompletion c) s = .next { t with
                    line.rxBuf := s.line.rxBuf ++ [c.data], line.gap := some 0
                    line.window := none })))

/-- The last character of a reply: CHECK, RESPONDER, LENGTH for an exchange, SEQUENCE for an attempt, in
that order, else a good reply with its length, flags and payload. -/
def Obligations.CompleteRepliesAreClassified : Prop :=
  ∀ (s : State) (r : RxChar) (p : Piece) (header control len lo hi : Byte) (payload : List Byte),
    s.line.rx = some r → s.line.clocks 11 ≤ r.elapsed → r.asEcho = false → s.line.engine = .receive →
    s.line.piece = some p → s.line.rxBuf = header :: control :: len :: payload ++ [lo] →
    payload.length = len.toNat →
    let step := exec (.characterCompletion { data := hi, mark := false, stop := true }) s
    let ends (k : LineCounter) (e : EngineState) (o : PieceOutcome) :=
      Host.Outcome.next (ρ := Refusal) (φ := Fault) { countLine k s with
        line.rx := none, line.quiet := some 0, line.engine := e, line.busy := some 0
        line.window := none, line.gap := none, line.rxBuf := []
        line.piece := some { p with report := some { outcome := o, time := s.line.headerTime } } }
    let good := ends .repliesGood .guard (.good len (control.extractLsb' 0 4) payload)
    let checkOk := crc16 (header :: control :: len :: payload) = hi ++ lo
    let from_ (a : BitVec 6) := header.extractLsb' 6 2 = 1 ∧ header.extractLsb' 0 6 = a
    (¬ checkOk → step = ends .checkErrors .settle (.error .check))
      ∧ (∀ i a inLen first stale sent, p.work = .exchange i a inLen first stale sent → checkOk →
        let paired := (control.getLsbD 1 = true ∧ len.toNat = inLen.toNat)
          ∨ (control.getLsbD 1 = false ∧ len = 0)
        (¬ from_ a → step = ends .responderErrors .settle (.error .responder))
          ∧ (from_ a → ¬ paired → step = ends .lengthErrors .settle (.error .length))
          ∧ (from_ a → paired → step = good))
      ∧ (∀ i a service sent, p.work = .attempt i a service sent → checkOk →
        (¬ from_ a → step = ends .responderErrors .settle (.error .responder))
          ∧ (from_ a → control.getLsbD 0 ≠ p.toggleSent →
              step = ends .sequenceErrors .settle (.error .sequence))
          ∧ (from_ a → control.getLsbD 0 = p.toggleSent → step = good))

/-- TRANSMIT: DE is high, and TXD holds each of the eleven bits of the character for one bit time, then rests
at 1. The echo check at the end of a sent character: the next character, the end of the frame, a collision in
SETTLE, or at the third in a row the line fault. Outside TRANSMIT DE is low and TXD 1. That the row carries
the echo, and so restarts the quiet timer where there is one, is the model's reading (log 8), and so is that a
transition discarded later does not undo that restart or the entry into SETTLE (log 9). -/
def Obligations.EchoCheckJudgesEveryCharacter : Prop :=
  (∀ (s : State) (p : Piece) (e : Option Echo),
    s.line.engine = .transmit → s.line.piece = some p →
    let k := s.line.txIndex
    let sent : LineChar := { data := p.frame.getD k 0, mark := k == 0, stop := true }
    let bit := s.line.txElapsed / s.line.clocks 1
    let equal := ∃ x, e = some x ∧ 2 * x.delay ≤ s.line.clocks 1 ∧ x.char = sent
    let restarted : Option RxChar := s.line.rx.map fun c => { c with quietBefore := none }
    let t : State := if e.isSome then { s with line.quiet := some 0, line.rx := restarted } else s
    let reported (o : PieceOutcome) : Option Piece :=
      some { p with report := some { outcome := o, time := s.tb.time } }
    let out := exec (.echoCheck e) s
    (s.de = true
        ∧ (∀ b, b < 11 → bit = 11 * k + b →
            s.txd =
              if b = 0 then false
              else if b ≤ 8 then sent.data.getLsbD (b - 1)
              else if b = 9 then sent.mark
              else true)
        ∧ (11 * (k + 1) ≤ bit → s.txd = true))
      ∧ (s.line.txElapsed < s.line.clocks (11 * (k + 1)) → out = .next s)
      ∧ (s.line.clocks (11 * (k + 1)) ≤ s.line.txElapsed →
        (equal → k + 1 < p.frame.length → out = .next { t with line.txIndex := k + 1 })
          ∧ (equal → p.frame.length ≤ k + 1 → p.work.isSync = true →
            out = .next { countLine .framesSent t with
              line.collisionRun := 0, line.engine := .guard, line.quiet := some 0
              line.busy := some 0, line.window := none, line.gap := none, line.rxBuf := []
              line.piece := reported .sent })
          ∧ (equal → p.frame.length ≤ k + 1 → p.work.isSync = false →
            out = .next { countLine .framesSent t with
              line.collisionRun := 0, line.engine := .awaitReply, line.window := some 0
              line.rxBuf := [] })
          ∧ (¬ equal → s.line.collisionRun < 2 →
            out = .next { countLine .collisions t with
              line.collisionRun := s.line.collisionRun + 1, line.engine := .settle
              line.quiet := some 0, line.rx := restarted, line.busy := some 0, line.window := none
              line.gap := none, line.rxBuf := [], line.piece := reported .collision })
          ∧ (¬ equal → 2 ≤ s.line.collisionRun →
            out = .next (lineFault .collision
              { countLine .collisions t with line.collisionRun := s.line.collisionRun + 1 }))))
    ∧ ∀ s : State, s.line.engine ≠ .transmit → s.de = false ∧ s.txd = true

/-- The expiries of the response window and of the gap, and the end of SETTLE, each at its interval and not
before. An expiry that is found some CLKIN periods after its instant is dated back to it: the time of a
TIMEOUT is that of the expiry, and the quiet timer and the busy timer have run since. Between the instant and
the finding, which a transition that is discarded puts apart, the model shows the state before the expiry
(log 16); a SETTLE end inside such a transition comes at the sample (log 9). The busy timer runs on past the
end of SETTLE, also at BUSY_LIMIT itself (log 19). -/
def Obligations.WindowGapAndSettleEnds : Prop :=
  ∀ s : State,
    let judged (o : PieceOutcome) (time : Time) : Option Piece :=
      s.line.piece.map fun p => { p with report := some { outcome := o, time := time } }
    let ago (d : Nat) : Time := s.tb.time - BitVec.ofNat 32 ((d + 31 - s.tb.prescaler.toNat) / 32)
    let quietSince (d : Nat) : Option Nat := some (min d (s.line.quiet.getD d))
    let quiet := s.line.rx = none
      ∧ ∃ q, s.line.quiet = some q ∧ s.line.clocks (s.line.charGap.toNat + 11) ≤ q
    (∀ w, s.line.engine = .awaitReply → s.line.window = some w →
        (s.line.clocks s.line.respWin.toNat ≤ w →
            let d := w - s.line.clocks s.line.respWin.toNat
            exec .responseWindowExpiry s = .next { countLine .timeouts s with
              line.engine := .guard, line.quiet := quietSince d
              line.rx := s.line.rx.map fun c => { c with quietBefore := none }
              line.busy := some d, line.window := none
              line.gap := none, line.rxBuf := [], line.piece := judged .timeout (ago d) })
          ∧ (w < s.line.clocks s.line.respWin.toNat → exec .responseWindowExpiry s = .next s))
      ∧ (s.line.engine ≠ .awaitReply → exec .responseWindowExpiry s = .next s)
      ∧ (∀ g, s.line.engine = .receive → s.line.gap = some g →
        (s.line.rx = none → s.line.clocks s.line.charGap.toNat ≤ g →
            let d := g - s.line.clocks s.line.charGap.toNat
            exec .charGapExpiry s = .next { countLine .gapErrors s with
              line.engine := .settle, line.quiet := quietSince d, line.busy := some d
              line.window := none, line.gap := none, line.rxBuf := []
              line.piece := judged (.error .gap) s.line.headerTime })
          ∧ (s.line.rx.isSome = true ∨ g < s.line.clocks s.line.charGap.toNat →
            exec .charGapExpiry s = .next s))
      ∧ (s.line.engine ≠ .receive → exec .charGapExpiry s = .next s)
      ∧ (s.line.engine = .settle → quiet →
          (∀ b, s.line.busy = some b → b ≤ s.line.clocks s.line.busyLimit.toNat) →
          exec .settleEnd s = .next { s with line.engine := .guard, line.quiet := some 0 })
      ∧ (s.line.engine ≠ .settle ∨ ¬ quiet → exec .settleEnd s = .next s)

/-- The end of the closing guard reports the piece: the engine is IDLE, the outcome is applied, and the run
goes on by the kind of work, or ends the draining in STOPPING. The walk visits the entries in order: not
due, skipped or called; at its end the bank is published and admission is made. A next piece is handed over in
the same step, before an arrival of the same instant that is taken second (log 20). That a transition which is
discarded later holds the guard back until its sample is the model's reading (log 9). -/
def Obligations.ClosingGuardReportsAndTheWalkGoesOn : Prop :=
  (∀ (s : State) (p : Piece) (rep : Report),
    let quiet := s.line.rx = none
      ∧ ∃ q, s.line.quiet = some q ∧ s.line.clocks s.line.guardTime.toNat ≤ q
    let idle : State := { s with line.engine := .idle, line.piece := none, line.busy := none }
    let out := exec .closingGuardEnd s
    let drained (t : State) : State := { t with
      line.engine := .off, line.quiet := none, line.window := none, line.gap := none
      line.rxBuf := [], sched.ctrl := .config, sched.phase := .none, tb.armed := false }
    s.line.engine = .guard → s.line.piece = some p → p.report = some rep →
      (¬ quiet → out = .next s)
        ∧ (quiet → (∀ b, s.line.busy = some b → b ≤ s.line.clocks s.line.busyLimit.toNat) →
          (∀ n, p.work = .sync n →
            let t : State :=
              if rep.outcome = .collision then
                { idle with
                  images.inBanks := s.images.inBanks.set s.images.fill
                    { s.images.inBanks[s.images.fill] with
                      summary.syncCollided := true } }
              else idle
            (s.sched.ctrl = .running → out = .next (walkFrom 0 { t with sched.phase := .cyclic }))
              ∧ (s.sched.ctrl = .stopping → out = .next (drained t)))
            ∧ (∀ i a k first stale payload, p.work = .exchange i a k first stale payload →
              let t := if p.discard then idle else applyExchange i rep idle
              (s.sched.ctrl = .running → out = .next (walkFrom s.sched.walkPos t))
                ∧ (s.sched.ctrl = .stopping → out = .next (drained t)))
            ∧ (∀ i a service payload, p.work = .attempt i a service payload →
              let t := applyAttempt rep idle
              (s.sched.ctrl = .running → s.sched.held = none → out = .next (admission t))
                ∧ (∀ e, s.sched.ctrl = .running → s.sched.held = some e → out = .next (takeHeld e t))
                ∧ (s.sched.ctrl = .stopping → out = .next (drained t)))))
    ∧ (∀ (s : State) (pos : Nat),
        walkFrom pos s =
          walk ((s.lists.activeList.entries.toList.take s.lists.activeList.len.toNat).drop pos) pos s)
    ∧ (∀ (s : State) (pos : Nat),
        let b := s.images.inBanks[s.images.fill]
        walk [] pos s = admission { s with
          images.inBanks := s.images.inBanks.set s.images.fill { b with summary.endTime := s.tb.time }
          images.fill := s.images.ready, images.ready := s.images.fill, images.inputFresh := true
          events.inReadyFlag := true, sched.phase := .acyclic })
    ∧ ∀ (e : ListEntry) (es : List ListEntry) (pos : Nat) (s : State),
      let r := s.station e.slot
      let due := s.sched.cycle.toNat % e.divisor.toNat = e.phase.toNat
      let skipped := r.enabled = false ∨ (r.health = .lost ∧ r.probeCountdown ≠ 0)
      let b := s.images.inBanks[s.images.fill]
      let first := r.health = .seeking ∨ r.health = .lost
      (¬ due → walk (e :: es) pos s = walk es (pos + 1) s)
        ∧ (due → skipped → walk (e :: es) pos s =
            walk es (pos + 1) { s with
              images.inBanks := s.images.inBanks.set s.images.fill
                { b with summary.due := b.summary.due + 1, summary.skipped := b.summary.skipped + 1 } })
        ∧ (due → ¬ skipped → walk (e :: es) pos s =
            handOver
              (.exchange e.slot r.address r.inLen (decide first) s.images.stale
                (if s.images.stale then []
                else (List.range r.outLen.toNat).map fun k =>
                  Memory.read s.images.outBanks[s.images.live] (r.outOffset.toNat + k)))
              (State.setStation
                { s with
                  sched.walkPos := pos + 1
                  images.inBanks := s.images.inBanks.set s.images.fill
                    { b with summary.due := b.summary.due + 1 } }
                e.slot
                (if r.health = .lost then { r with probeCountdown := r.probeInterval } else r)))

/-- BUSY_LIMIT_EXPIRY declares a line fault while the engine waits for a quiet line. A line fault, of
either cause: OFF, LINE_FAULT posted, the request in flight completed LINE_FAULT, FAULTED with the phase
NONE, the Time Base disarmed and a held start discarded; all else stays. -/
def Obligations.LineFaultEndsTheRun : Prop :=
  (∀ (s : State) (b : Nat), s.line.engine = .guard ∨ s.line.engine = .settle → s.line.busy = some b →
      (s.line.clocks s.line.busyLimit.toNat ≤ b →
          exec .busyLimitExpiry s = .next (lineFault .busy s))
        ∧ (b < s.line.clocks s.line.busyLimit.toNat → exec .busyLimitExpiry s = .next s))
    ∧ (∀ s : State, s.line.engine ≠ .guard → s.line.engine ≠ .settle →
        exec .busyLimitExpiry s = .next s)
    ∧ FaultCause.busy.detail = 1 ∧ FaultCause.collision.detail = 2
    ∧ ∀ (c : FaultCause) (s : State), ∃ t, lineFault c s = t
      ∧ t = { s with
          line := t.line, events := (notify .lineFault 0xFF s.sched.cycle c.detail s).events
          reqs := t.reqs, sched.ctrl := .faulted, sched.phase := .none, sched.held := none
          tb.armed := false }
      ∧ t.line = { s.line with
          engine := .off, piece := none, quiet := none, busy := none, window := none, gap := none
          rx := none, rxBuf := [] }
      ∧ t.de = false ∧ t.txd = true ∧ t.intStatus.getLsbD 2 = true
      ∧ ((∀ r q, s.reqs.queue = r :: q → r.inFlight = false) → t.reqs = s.reqs)
      ∧ ∀ r q, s.reqs.queue = r :: q → r.inFlight = true →
          t.reqs = { s.reqs with
            queue := q
            completions := s.reqs.completions ++
              [{ tag := r.tag, outcome := .lineFault, slot := r.slot, attemptsUsed := r.attemptsUsed
                 replyLen := 0, flags := 0, replyTime := s.tb.time, cycle := s.sched.cycle
                 payload := [] }] }

/-! ## Outcomes -/

/-- The outcome of an exchange: the station record by the good-reply and failure rules with its events, the
slot status record by the ranking, the data of a FRESH reply, and the class count of the summary. -/
def Obligations.ExchangeOutcomesAreApplied : Prop :=
  ∀ (s : State) (i : Slot) (o : PieceOutcome) (time : Time),
    let t := applyExchange i { outcome := o, time := time } s
    let r := s.station i
    let b := s.images.inBanks[s.images.fill]
    let slot := b.slots[i]
    let m := b.summary
    let bank (x : InBank) : Prop :=
      t.images = { s.images with inBanks := s.images.inBanks.set s.images.fill x }
    let notice (c : EventCode) (d : Word) (n : State) :=
      notify c (BitVec.ofNat 8 i.val) s.sched.cycle d n
    let joined : State :=
      if r.health = .seeking then notice .stationJoined 0 s
      else if r.health = .lost then notice .stationRecovered 0 s
      else s
    let frame := t = { s with
      images := t.images, stations := s.stations.set i (t.station i), events := t.events }
    let miss := if r.consecutiveMiss = r.missLimit then r.consecutiveMiss else r.consecutiveMiss + 1
    let failed (timedOut : Bool) : Prop :=
      let q := { r with
        consecutiveMiss := miss
        missed := if timedOut = true ∧ r.missed ≠ 0xFFFF#16 then r.missed + 1 else r.missed
        errored := if timedOut = false ∧ r.errored ≠ 0xFFFF#16 then r.errored + 1 else r.errored }
      frame
        ∧ (miss = r.missLimit → r.health ≠ .lost →
            t.station i = { q with health := .lost, probeCountdown := r.probeInterval }
              ∧ t.events = (notice .stationLost 0 s).events)
        ∧ (miss ≠ r.missLimit → r.health = .active →
            t.station i = { q with health := .suspect }
              ∧ t.events = (notice .stationSuspect 0 s).events)
        ∧ ((miss = r.missLimit → r.health = .lost) → (miss ≠ r.missLimit → r.health ≠ .active) →
            t.station i = q ∧ t.events = s.events)
        ∧ bank { b with
            slots := b.slots.set i
              (if slot.status = .notCalled then
                { status := if timedOut then .missed else .errored, replyLen := 0, flags := 0
                  callCount := slot.callCount + 1, replyTime := time, cycle := s.sched.cycle }
              else { slot with callCount := slot.callCount + 1 })
            summary :=
              if timedOut then { m with missed := m.missed + 1 } else { m with errored := m.errored + 1 } }
    (∀ len flags payload, o = .good len flags payload →
        frame
          ∧ t.station i = { r with
              consecutiveMiss := 0, health := .active, goodReplies := r.goodReplies + 1
              lastReplyTime := time, lastReplyCycle := s.sched.cycle
              lastReady := flags.getLsbD 1, lastAlarm := flags.getLsbD 2 }
          ∧ t.events =
              (if flags.getLsbD 2 = true ∧ r.lastAlarm = false then
                notice .stationAlarm (0#12 ++ flags) joined
              else joined).events
          ∧ (flags.getLsbD 1 = true → bank { b with
              data := Memory.writeAll b.data r.inOffset.toNat payload
              slots := b.slots.set i
                { status := .fresh, replyLen := len, flags := flags
                  callCount := slot.callCount + 1, replyTime := time, cycle := s.sched.cycle }
              summary.fresh := m.fresh + 1 })
          ∧ (flags.getLsbD 1 = false → bank { b with
              slots := b.slots.set i
                (if slot.status = .fresh then { slot with callCount := slot.callCount + 1 }
                else
                  { status := .notReady, replyLen := len, flags := flags
                    callCount := slot.callCount + 1, replyTime := time, cycle := s.sched.cycle })
              summary.notReady := m.notReady + 1 }))
      ∧ (o = .timeout → failed true)
      ∧ (o = .collision → failed false)
      ∧ ∀ e, o = .error e → failed false

/-- The outcome of an attempt: a good reply inverts the toggle and completes the request REFUSED, OVERSIZE
or DONE; a failure is applied by the first line of Table 5-2 that fits. -/
def Obligations.AttemptOutcomesAreApplied : Prop :=
  ∀ (s : State) (r : Request) (q : List Request) (o : PieceOutcome) (time : Time),
    s.reqs.queue = r :: q → r.inFlight = true →
    let t := applyAttempt { outcome := o, time := time } s
    let ended (c : ReqOutcome) (len : Byte) (flags : BitVec 4) (payload : List Byte) : Requests :=
      { s.reqs with
        queue := q
        completions := s.reqs.completions ++
          [{ tag := r.tag, outcome := c, slot := r.slot, attemptsUsed := r.attemptsUsed
             replyLen := len, flags := flags, replyTime := time, cycle := s.sched.cycle
             payload := payload }] }
    (∀ len flags payload, o = .good len flags payload →
        let small := len.toNat ≤ r.replyMax.toNat
        t = { s with
            stations := s.stations.set r.slot
              { s.station r.slot with toggle := !(s.station r.slot).toggle }
            reqs := ended
              (if flags.getLsbD 3 then .refused else if small then .done else .oversize)
              len flags (if small then payload else []) })
      ∧ ((o = .timeout ∨ o = .collision ∨ ∃ e, o = .error e) →
        let retries := r.attemptsUsed.toNat < r.retryLimit.toNat + 1
        (r.cancelRequested = true → t = { s with reqs := ended .cancelled 0 0 [] })
          ∧ (r.cancelRequested = false → r.disabledDuring = true →
              t = { s with reqs := ended .stationUnavailable 0 0 [] })
          ∧ (r.cancelRequested = false → r.disabledDuring = false → retries → t = s)
          ∧ (r.cancelRequested = false → r.disabledDuring = false → ¬ retries →
              t = { s with reqs := ended .noReply 0 0 [] }))

/-! ## Laws of the part -/

/-- R71's law, kept by every step in every state: the roles of the banks. With it, the canonical form of
every memory and the even WIN_ADDR. -/
def Obligations.EveryStepKeepsTheBanks : Prop :=
  ∀ s t : State, s.images.RolesHeld → s.images.MemoryHeld → Memory.wf s.reqs.payload → s.WindowHeld →
    step s = .next t →
      t.images.RolesHeld ∧ t.images.MemoryHeld ∧ Memory.wf t.reqs.payload ∧ t.WindowHeld

/-- The places of the request, completion and event queues, and the miss count's agreement with the
tracker, kept by every step. -/
def Obligations.EveryStepKeepsQueuesAndTracker : Prop :=
  ∀ s t : State, s.reqs.QueuesHeld → s.events.QueueHeld → s.tb.TrackerHeld → step s = .next t →
    t.reqs.QueuesHeld ∧ t.events.QueueHeld ∧ t.tb.TrackerHeld

/-- The station table's laws and the ranges of the lists, kept by every step. -/
def Obligations.EveryStepKeepsStationsAndLists : Prop :=
  ∀ s t : State, s.TableHeld → s.HealthHeld → s.lists.InRange → step s = .next t →
    t.TableHeld ∧ t.HealthHeld ∧ t.lists.InRange

/-- What the controller state, the phase, the engine and the piece in hand have to do with each other, kept
by every step. -/
def Obligations.EveryStepKeepsTheRun : Prop :=
  ∀ s t : State, s.RunHeld → s.ResetHeld → step s = .next t →
    t.RunHeld ∧ t.ResetHeld

/-- Every law of the part holds right after reset. -/
def Obligations.LawsHoldAtReset : Prop :=
  let s := State.reset
  s.images.RolesHeld ∧ s.images.MemoryHeld ∧ Memory.wf s.reqs.payload ∧ s.WindowHeld
    ∧ s.reqs.QueuesHeld ∧ s.events.QueueHeld ∧ s.tb.TrackerHeld ∧ s.TableHeld ∧ s.HealthHeld
    ∧ s.lists.InRange ∧ s.RunHeld ∧ s.ResetHeld
end

