-- ==== Sys2Proof/Laws/State.lean ====
section
/-! SUPPORT. What the named updates of State leave unchanged: one lemma for each field and update. -/

namespace Sys2Proof.Machine

/-! ## setStation -/

@[simp] theorem setStation_pending (i : Slot) (r : Station) (s : State) : (s.setStation i r).pending = s.pending := rfl
@[simp] theorem setStation_freeCount (i : Slot) (r : Station) (s : State) : (s.setStation i r).freeCount = s.freeCount := rfl
@[simp] theorem setStation_resetLow (i : Slot) (r : Station) (s : State) : (s.setStation i r).resetLow = s.resetLow := rfl
@[simp] theorem setStation_clear (i : Slot) (r : Station) (s : State) : (s.setStation i r).clear = s.clear := rfl
@[simp] theorem setStation_port (i : Slot) (r : Station) (s : State) : (s.setStation i r).port = s.port := rfl
@[simp] theorem setStation_tb (i : Slot) (r : Station) (s : State) : (s.setStation i r).tb = s.tb := rfl
@[simp] theorem setStation_line (i : Slot) (r : Station) (s : State) : (s.setStation i r).line = s.line := rfl
@[simp] theorem setStation_lists (i : Slot) (r : Station) (s : State) : (s.setStation i r).lists = s.lists := rfl
@[simp] theorem setStation_sched (i : Slot) (r : Station) (s : State) : (s.setStation i r).sched = s.sched := rfl
@[simp] theorem setStation_images (i : Slot) (r : Station) (s : State) : (s.setStation i r).images = s.images := rfl
@[simp] theorem setStation_reqs (i : Slot) (r : Station) (s : State) : (s.setStation i r).reqs = s.reqs := rfl
@[simp] theorem setStation_events (i : Slot) (r : Station) (s : State) : (s.setStation i r).events = s.events := rfl

/-! ## modifyStation -/

@[simp] theorem modifyStation_pending (i : Slot) (f : Station → Station) (s : State) : (s.modifyStation i f).pending = s.pending := rfl
@[simp] theorem modifyStation_freeCount (i : Slot) (f : Station → Station) (s : State) : (s.modifyStation i f).freeCount = s.freeCount := rfl
@[simp] theorem modifyStation_resetLow (i : Slot) (f : Station → Station) (s : State) : (s.modifyStation i f).resetLow = s.resetLow := rfl
@[simp] theorem modifyStation_clear (i : Slot) (f : Station → Station) (s : State) : (s.modifyStation i f).clear = s.clear := rfl
@[simp] theorem modifyStation_port (i : Slot) (f : Station → Station) (s : State) : (s.modifyStation i f).port = s.port := rfl
@[simp] theorem modifyStation_tb (i : Slot) (f : Station → Station) (s : State) : (s.modifyStation i f).tb = s.tb := rfl
@[simp] theorem modifyStation_line (i : Slot) (f : Station → Station) (s : State) : (s.modifyStation i f).line = s.line := rfl
@[simp] theorem modifyStation_lists (i : Slot) (f : Station → Station) (s : State) : (s.modifyStation i f).lists = s.lists := rfl
@[simp] theorem modifyStation_sched (i : Slot) (f : Station → Station) (s : State) : (s.modifyStation i f).sched = s.sched := rfl
@[simp] theorem modifyStation_images (i : Slot) (f : Station → Station) (s : State) : (s.modifyStation i f).images = s.images := rfl
@[simp] theorem modifyStation_reqs (i : Slot) (f : Station → Station) (s : State) : (s.modifyStation i f).reqs = s.reqs := rfl
@[simp] theorem modifyStation_events (i : Slot) (f : Station → Station) (s : State) : (s.modifyStation i f).events = s.events := rfl

/-! ## mapStations -/

@[simp] theorem mapStations_pending (f : Station → Station) (s : State) : (s.mapStations f).pending = s.pending := by unfold State.mapStations; rfl
@[simp] theorem mapStations_freeCount (f : Station → Station) (s : State) : (s.mapStations f).freeCount = s.freeCount := by unfold State.mapStations; rfl
@[simp] theorem mapStations_resetLow (f : Station → Station) (s : State) : (s.mapStations f).resetLow = s.resetLow := by unfold State.mapStations; rfl
@[simp] theorem mapStations_clear (f : Station → Station) (s : State) : (s.mapStations f).clear = s.clear := by unfold State.mapStations; rfl
@[simp] theorem mapStations_port (f : Station → Station) (s : State) : (s.mapStations f).port = s.port := by unfold State.mapStations; rfl
@[simp] theorem mapStations_tb (f : Station → Station) (s : State) : (s.mapStations f).tb = s.tb := by unfold State.mapStations; rfl
@[simp] theorem mapStations_line (f : Station → Station) (s : State) : (s.mapStations f).line = s.line := by unfold State.mapStations; rfl
@[simp] theorem mapStations_lists (f : Station → Station) (s : State) : (s.mapStations f).lists = s.lists := by unfold State.mapStations; rfl
@[simp] theorem mapStations_sched (f : Station → Station) (s : State) : (s.mapStations f).sched = s.sched := by unfold State.mapStations; rfl
@[simp] theorem mapStations_images (f : Station → Station) (s : State) : (s.mapStations f).images = s.images := by unfold State.mapStations; rfl
@[simp] theorem mapStations_reqs (f : Station → Station) (s : State) : (s.mapStations f).reqs = s.reqs := by unfold State.mapStations; rfl
@[simp] theorem mapStations_events (f : Station → Station) (s : State) : (s.mapStations f).events = s.events := by unfold State.mapStations; rfl

/-! ## modifyFill -/

@[simp] theorem modifyFill_pending (f : InBank → InBank) (s : State) : (s.modifyFill f).pending = s.pending := rfl
@[simp] theorem modifyFill_freeCount (f : InBank → InBank) (s : State) : (s.modifyFill f).freeCount = s.freeCount := rfl
@[simp] theorem modifyFill_resetLow (f : InBank → InBank) (s : State) : (s.modifyFill f).resetLow = s.resetLow := rfl
@[simp] theorem modifyFill_clear (f : InBank → InBank) (s : State) : (s.modifyFill f).clear = s.clear := rfl
@[simp] theorem modifyFill_port (f : InBank → InBank) (s : State) : (s.modifyFill f).port = s.port := rfl
@[simp] theorem modifyFill_tb (f : InBank → InBank) (s : State) : (s.modifyFill f).tb = s.tb := rfl
@[simp] theorem modifyFill_line (f : InBank → InBank) (s : State) : (s.modifyFill f).line = s.line := rfl
@[simp] theorem modifyFill_stations (f : InBank → InBank) (s : State) : (s.modifyFill f).stations = s.stations := rfl
@[simp] theorem modifyFill_lists (f : InBank → InBank) (s : State) : (s.modifyFill f).lists = s.lists := rfl
@[simp] theorem modifyFill_sched (f : InBank → InBank) (s : State) : (s.modifyFill f).sched = s.sched := rfl
@[simp] theorem modifyFill_reqs (f : InBank → InBank) (s : State) : (s.modifyFill f).reqs = s.reqs := rfl
@[simp] theorem modifyFill_events (f : InBank → InBank) (s : State) : (s.modifyFill f).events = s.events := rfl

/-! ## modifySummary -/

@[simp] theorem modifySummary_pending (f : CycleSummary → CycleSummary) (s : State) : (s.modifySummary f).pending = s.pending := rfl
@[simp] theorem modifySummary_freeCount (f : CycleSummary → CycleSummary) (s : State) : (s.modifySummary f).freeCount = s.freeCount := rfl
@[simp] theorem modifySummary_resetLow (f : CycleSummary → CycleSummary) (s : State) : (s.modifySummary f).resetLow = s.resetLow := rfl
@[simp] theorem modifySummary_clear (f : CycleSummary → CycleSummary) (s : State) : (s.modifySummary f).clear = s.clear := rfl
@[simp] theorem modifySummary_port (f : CycleSummary → CycleSummary) (s : State) : (s.modifySummary f).port = s.port := rfl
@[simp] theorem modifySummary_tb (f : CycleSummary → CycleSummary) (s : State) : (s.modifySummary f).tb = s.tb := rfl
@[simp] theorem modifySummary_line (f : CycleSummary → CycleSummary) (s : State) : (s.modifySummary f).line = s.line := rfl
@[simp] theorem modifySummary_stations (f : CycleSummary → CycleSummary) (s : State) : (s.modifySummary f).stations = s.stations := rfl
@[simp] theorem modifySummary_lists (f : CycleSummary → CycleSummary) (s : State) : (s.modifySummary f).lists = s.lists := rfl
@[simp] theorem modifySummary_sched (f : CycleSummary → CycleSummary) (s : State) : (s.modifySummary f).sched = s.sched := rfl
@[simp] theorem modifySummary_reqs (f : CycleSummary → CycleSummary) (s : State) : (s.modifySummary f).reqs = s.reqs := rfl
@[simp] theorem modifySummary_events (f : CycleSummary → CycleSummary) (s : State) : (s.modifySummary f).events = s.events := rfl

/-! ## setAccess -/

@[simp] theorem setAccess_pending (s : State) : (setAccess s).pending = s.pending := rfl
@[simp] theorem setAccess_freeCount (s : State) : (setAccess s).freeCount = s.freeCount := rfl
@[simp] theorem setAccess_resetLow (s : State) : (setAccess s).resetLow = s.resetLow := rfl
@[simp] theorem setAccess_clear (s : State) : (setAccess s).clear = s.clear := rfl
@[simp] theorem setAccess_port (s : State) : (setAccess s).port = s.port := rfl
@[simp] theorem setAccess_tb (s : State) : (setAccess s).tb = s.tb := rfl
@[simp] theorem setAccess_line (s : State) : (setAccess s).line = s.line := rfl
@[simp] theorem setAccess_stations (s : State) : (setAccess s).stations = s.stations := rfl
@[simp] theorem setAccess_lists (s : State) : (setAccess s).lists = s.lists := rfl
@[simp] theorem setAccess_sched (s : State) : (setAccess s).sched = s.sched := rfl
@[simp] theorem setAccess_images (s : State) : (setAccess s).images = s.images := rfl
@[simp] theorem setAccess_reqs (s : State) : (setAccess s).reqs = s.reqs := rfl

/-! ## recordResult -/

@[simp] theorem recordResult_pending (c a : Byte) (r : ResultCode) (s : State) : (recordResult c a r s).pending = s.pending := rfl
@[simp] theorem recordResult_freeCount (c a : Byte) (r : ResultCode) (s : State) : (recordResult c a r s).freeCount = s.freeCount := rfl
@[simp] theorem recordResult_resetLow (c a : Byte) (r : ResultCode) (s : State) : (recordResult c a r s).resetLow = s.resetLow := rfl
@[simp] theorem recordResult_clear (c a : Byte) (r : ResultCode) (s : State) : (recordResult c a r s).clear = s.clear := rfl
@[simp] theorem recordResult_tb (c a : Byte) (r : ResultCode) (s : State) : (recordResult c a r s).tb = s.tb := rfl
@[simp] theorem recordResult_line (c a : Byte) (r : ResultCode) (s : State) : (recordResult c a r s).line = s.line := rfl
@[simp] theorem recordResult_stations (c a : Byte) (r : ResultCode) (s : State) : (recordResult c a r s).stations = s.stations := rfl
@[simp] theorem recordResult_lists (c a : Byte) (r : ResultCode) (s : State) : (recordResult c a r s).lists = s.lists := rfl
@[simp] theorem recordResult_sched (c a : Byte) (r : ResultCode) (s : State) : (recordResult c a r s).sched = s.sched := rfl
@[simp] theorem recordResult_images (c a : Byte) (r : ResultCode) (s : State) : (recordResult c a r s).images = s.images := rfl
@[simp] theorem recordResult_reqs (c a : Byte) (r : ResultCode) (s : State) : (recordResult c a r s).reqs = s.reqs := rfl
@[simp] theorem recordResult_events (c a : Byte) (r : ResultCode) (s : State) : (recordResult c a r s).events = s.events := rfl

/-! ## countLine -/

@[simp] theorem countLine_pending (c : LineCounter) (s : State) : (countLine c s).pending = s.pending := rfl
@[simp] theorem countLine_freeCount (c : LineCounter) (s : State) : (countLine c s).freeCount = s.freeCount := rfl
@[simp] theorem countLine_resetLow (c : LineCounter) (s : State) : (countLine c s).resetLow = s.resetLow := rfl
@[simp] theorem countLine_clear (c : LineCounter) (s : State) : (countLine c s).clear = s.clear := rfl
@[simp] theorem countLine_port (c : LineCounter) (s : State) : (countLine c s).port = s.port := rfl
@[simp] theorem countLine_tb (c : LineCounter) (s : State) : (countLine c s).tb = s.tb := rfl
@[simp] theorem countLine_stations (c : LineCounter) (s : State) : (countLine c s).stations = s.stations := rfl
@[simp] theorem countLine_lists (c : LineCounter) (s : State) : (countLine c s).lists = s.lists := rfl
@[simp] theorem countLine_sched (c : LineCounter) (s : State) : (countLine c s).sched = s.sched := rfl
@[simp] theorem countLine_images (c : LineCounter) (s : State) : (countLine c s).images = s.images := rfl
@[simp] theorem countLine_reqs (c : LineCounter) (s : State) : (countLine c s).reqs = s.reqs := rfl
@[simp] theorem countLine_events (c : LineCounter) (s : State) : (countLine c s).events = s.events := rfl

/-! ## restartQuiet -/

@[simp] theorem restartQuiet_pending (s : State) : (restartQuiet s).pending = s.pending := rfl
@[simp] theorem restartQuiet_freeCount (s : State) : (restartQuiet s).freeCount = s.freeCount := rfl
@[simp] theorem restartQuiet_resetLow (s : State) : (restartQuiet s).resetLow = s.resetLow := rfl
@[simp] theorem restartQuiet_clear (s : State) : (restartQuiet s).clear = s.clear := rfl
@[simp] theorem restartQuiet_port (s : State) : (restartQuiet s).port = s.port := rfl
@[simp] theorem restartQuiet_tb (s : State) : (restartQuiet s).tb = s.tb := rfl
@[simp] theorem restartQuiet_stations (s : State) : (restartQuiet s).stations = s.stations := rfl
@[simp] theorem restartQuiet_lists (s : State) : (restartQuiet s).lists = s.lists := rfl
@[simp] theorem restartQuiet_sched (s : State) : (restartQuiet s).sched = s.sched := rfl
@[simp] theorem restartQuiet_images (s : State) : (restartQuiet s).images = s.images := rfl
@[simp] theorem restartQuiet_reqs (s : State) : (restartQuiet s).reqs = s.reqs := rfl
@[simp] theorem restartQuiet_events (s : State) : (restartQuiet s).events = s.events := rfl

/-! ## LineEngine.restartQuiet -/

@[simp] theorem restartQuiet_line (s : State) : (restartQuiet s).line = s.line.restartQuiet := rfl
@[simp] theorem LineEngine.restartQuiet_quiet (l : LineEngine) : l.restartQuiet.quiet = some 0 := rfl
@[simp] theorem LineEngine.restartQuiet_rx (l : LineEngine) : l.restartQuiet.rx = l.rx.map fun c => { c with quietBefore := none } := rfl
@[simp] theorem LineEngine.restartQuiet_rateCode (l : LineEngine) : l.restartQuiet.rateCode = l.rateCode := rfl
@[simp] theorem LineEngine.restartQuiet_budgetOff (l : LineEngine) : l.restartQuiet.budgetOff = l.budgetOff := rfl
@[simp] theorem LineEngine.restartQuiet_respWin (l : LineEngine) : l.restartQuiet.respWin = l.respWin := rfl
@[simp] theorem LineEngine.restartQuiet_charGap (l : LineEngine) : l.restartQuiet.charGap = l.charGap := rfl
@[simp] theorem LineEngine.restartQuiet_guardTime (l : LineEngine) : l.restartQuiet.guardTime = l.guardTime := rfl
@[simp] theorem LineEngine.restartQuiet_busyLimit (l : LineEngine) : l.restartQuiet.busyLimit = l.busyLimit := rfl
@[simp] theorem LineEngine.restartQuiet_engine (l : LineEngine) : l.restartQuiet.engine = l.engine := rfl
@[simp] theorem LineEngine.restartQuiet_piece (l : LineEngine) : l.restartQuiet.piece = l.piece := rfl
@[simp] theorem LineEngine.restartQuiet_busy (l : LineEngine) : l.restartQuiet.busy = l.busy := rfl
@[simp] theorem LineEngine.restartQuiet_window (l : LineEngine) : l.restartQuiet.window = l.window := rfl
@[simp] theorem LineEngine.restartQuiet_gap (l : LineEngine) : l.restartQuiet.gap = l.gap := rfl
@[simp] theorem LineEngine.restartQuiet_collisionRun (l : LineEngine) : l.restartQuiet.collisionRun = l.collisionRun := rfl
@[simp] theorem LineEngine.restartQuiet_txIndex (l : LineEngine) : l.restartQuiet.txIndex = l.txIndex := rfl
@[simp] theorem LineEngine.restartQuiet_txElapsed (l : LineEngine) : l.restartQuiet.txElapsed = l.txElapsed := rfl
@[simp] theorem LineEngine.restartQuiet_rxBuf (l : LineEngine) : l.restartQuiet.rxBuf = l.rxBuf := rfl
@[simp] theorem LineEngine.restartQuiet_headerTime (l : LineEngine) : l.restartQuiet.headerTime = l.headerTime := rfl
@[simp] theorem LineEngine.restartQuiet_counters (l : LineEngine) : l.restartQuiet.counters = l.counters := rfl

/-- A second restart at the same instant changes nothing. -/
@[simp] theorem LineEngine.restartQuiet_restartQuiet (l : LineEngine) :
    l.restartQuiet.restartQuiet = l.restartQuiet := by
  unfold LineEngine.restartQuiet
  simp only [Option.map_map]
  rfl

/-- With the receiver outside a character a restart sets the quiet timer alone. -/
theorem LineEngine.restartQuiet_of_rx_none {l : LineEngine} (h : l.rx = none) :
    l.restartQuiet = { l with quiet := some 0 } := by
  unfold LineEngine.restartQuiet
  rw [h]
  rfl

/-! ## datedBack -/

@[simp] theorem datedBack_pending (n : Nat) (s t : State) : (datedBack n s t).pending = t.pending := rfl
@[simp] theorem datedBack_freeCount (n : Nat) (s t : State) : (datedBack n s t).freeCount = t.freeCount := rfl
@[simp] theorem datedBack_resetLow (n : Nat) (s t : State) : (datedBack n s t).resetLow = t.resetLow := rfl
@[simp] theorem datedBack_clear (n : Nat) (s t : State) : (datedBack n s t).clear = t.clear := rfl
@[simp] theorem datedBack_port (n : Nat) (s t : State) : (datedBack n s t).port = t.port := rfl
@[simp] theorem datedBack_tb (n : Nat) (s t : State) : (datedBack n s t).tb = t.tb := rfl
@[simp] theorem datedBack_stations (n : Nat) (s t : State) : (datedBack n s t).stations = t.stations := rfl
@[simp] theorem datedBack_lists (n : Nat) (s t : State) : (datedBack n s t).lists = t.lists := rfl
@[simp] theorem datedBack_sched (n : Nat) (s t : State) : (datedBack n s t).sched = t.sched := rfl
@[simp] theorem datedBack_images (n : Nat) (s t : State) : (datedBack n s t).images = t.images := rfl
@[simp] theorem datedBack_reqs (n : Nat) (s t : State) : (datedBack n s t).reqs = t.reqs := rfl
@[simp] theorem datedBack_events (n : Nat) (s t : State) : (datedBack n s t).events = t.events := rfl
@[simp] theorem datedBack_line_rateCode (n : Nat) (s t : State) : (datedBack n s t).line.rateCode = t.line.rateCode := rfl
@[simp] theorem datedBack_line_budgetOff (n : Nat) (s t : State) : (datedBack n s t).line.budgetOff = t.line.budgetOff := rfl
@[simp] theorem datedBack_line_respWin (n : Nat) (s t : State) : (datedBack n s t).line.respWin = t.line.respWin := rfl
@[simp] theorem datedBack_line_charGap (n : Nat) (s t : State) : (datedBack n s t).line.charGap = t.line.charGap := rfl
@[simp] theorem datedBack_line_guardTime (n : Nat) (s t : State) : (datedBack n s t).line.guardTime = t.line.guardTime := rfl
@[simp] theorem datedBack_line_busyLimit (n : Nat) (s t : State) : (datedBack n s t).line.busyLimit = t.line.busyLimit := rfl
@[simp] theorem datedBack_line_engine (n : Nat) (s t : State) : (datedBack n s t).line.engine = t.line.engine := rfl
@[simp] theorem datedBack_line_piece (n : Nat) (s t : State) : (datedBack n s t).line.piece = t.line.piece := rfl
@[simp] theorem datedBack_line_window (n : Nat) (s t : State) : (datedBack n s t).line.window = t.line.window := rfl
@[simp] theorem datedBack_line_gap (n : Nat) (s t : State) : (datedBack n s t).line.gap = t.line.gap := rfl
@[simp] theorem datedBack_line_collisionRun (n : Nat) (s t : State) : (datedBack n s t).line.collisionRun = t.line.collisionRun := rfl
@[simp] theorem datedBack_line_txIndex (n : Nat) (s t : State) : (datedBack n s t).line.txIndex = t.line.txIndex := rfl
@[simp] theorem datedBack_line_txElapsed (n : Nat) (s t : State) : (datedBack n s t).line.txElapsed = t.line.txElapsed := rfl
@[simp] theorem datedBack_line_rx (n : Nat) (s t : State) : (datedBack n s t).line.rx = t.line.rx := rfl
@[simp] theorem datedBack_line_rxBuf (n : Nat) (s t : State) : (datedBack n s t).line.rxBuf = t.line.rxBuf := rfl
@[simp] theorem datedBack_line_headerTime (n : Nat) (s t : State) : (datedBack n s t).line.headerTime = t.line.headerTime := rfl
@[simp] theorem datedBack_line_counters (n : Nat) (s t : State) : (datedBack n s t).line.counters = t.line.counters := rfl
@[simp] theorem datedBack_line_quiet (n : Nat) (s t : State) : (datedBack n s t).line.quiet = some (min n (s.line.quiet.getD n)) := rfl
@[simp] theorem datedBack_line_busy (n : Nat) (s t : State) : (datedBack n s t).line.busy = some n := rfl

/-- An expiry that is taken at its instant finds both timers restarted there. -/
theorem datedBack_zero (s t : State) :
    datedBack 0 s t = { t with line.quiet := some 0, line.busy := some 0 } := by
  unfold datedBack
  rw [Nat.zero_min]

/-! ## engineOff -/

@[simp] theorem engineOff_pending (s : State) : (engineOff s).pending = s.pending := rfl
@[simp] theorem engineOff_freeCount (s : State) : (engineOff s).freeCount = s.freeCount := rfl
@[simp] theorem engineOff_resetLow (s : State) : (engineOff s).resetLow = s.resetLow := rfl
@[simp] theorem engineOff_clear (s : State) : (engineOff s).clear = s.clear := rfl
@[simp] theorem engineOff_port (s : State) : (engineOff s).port = s.port := rfl
@[simp] theorem engineOff_tb (s : State) : (engineOff s).tb = s.tb := rfl
@[simp] theorem engineOff_stations (s : State) : (engineOff s).stations = s.stations := rfl
@[simp] theorem engineOff_lists (s : State) : (engineOff s).lists = s.lists := rfl
@[simp] theorem engineOff_sched (s : State) : (engineOff s).sched = s.sched := rfl
@[simp] theorem engineOff_images (s : State) : (engineOff s).images = s.images := rfl
@[simp] theorem engineOff_reqs (s : State) : (engineOff s).reqs = s.reqs := rfl
@[simp] theorem engineOff_events (s : State) : (engineOff s).events = s.events := rfl

/-! ## judge -/

@[simp] theorem judge_pending (r : Report) (s : State) : (judge r s).pending = s.pending := rfl
@[simp] theorem judge_freeCount (r : Report) (s : State) : (judge r s).freeCount = s.freeCount := rfl
@[simp] theorem judge_resetLow (r : Report) (s : State) : (judge r s).resetLow = s.resetLow := rfl
@[simp] theorem judge_clear (r : Report) (s : State) : (judge r s).clear = s.clear := rfl
@[simp] theorem judge_port (r : Report) (s : State) : (judge r s).port = s.port := rfl
@[simp] theorem judge_tb (r : Report) (s : State) : (judge r s).tb = s.tb := rfl
@[simp] theorem judge_stations (r : Report) (s : State) : (judge r s).stations = s.stations := rfl
@[simp] theorem judge_lists (r : Report) (s : State) : (judge r s).lists = s.lists := rfl
@[simp] theorem judge_sched (r : Report) (s : State) : (judge r s).sched = s.sched := rfl
@[simp] theorem judge_images (r : Report) (s : State) : (judge r s).images = s.images := rfl
@[simp] theorem judge_reqs (r : Report) (s : State) : (judge r s).reqs = s.reqs := rfl
@[simp] theorem judge_events (r : Report) (s : State) : (judge r s).events = s.events := rfl

/-! ## enterSettle -/

@[simp] theorem enterSettle_pending (r : Report) (s : State) : (enterSettle r s).pending = s.pending := rfl
@[simp] theorem enterSettle_freeCount (r : Report) (s : State) : (enterSettle r s).freeCount = s.freeCount := rfl
@[simp] theorem enterSettle_resetLow (r : Report) (s : State) : (enterSettle r s).resetLow = s.resetLow := rfl
@[simp] theorem enterSettle_clear (r : Report) (s : State) : (enterSettle r s).clear = s.clear := rfl
@[simp] theorem enterSettle_port (r : Report) (s : State) : (enterSettle r s).port = s.port := rfl
@[simp] theorem enterSettle_tb (r : Report) (s : State) : (enterSettle r s).tb = s.tb := rfl
@[simp] theorem enterSettle_stations (r : Report) (s : State) : (enterSettle r s).stations = s.stations := rfl
@[simp] theorem enterSettle_lists (r : Report) (s : State) : (enterSettle r s).lists = s.lists := rfl
@[simp] theorem enterSettle_sched (r : Report) (s : State) : (enterSettle r s).sched = s.sched := rfl
@[simp] theorem enterSettle_images (r : Report) (s : State) : (enterSettle r s).images = s.images := rfl
@[simp] theorem enterSettle_reqs (r : Report) (s : State) : (enterSettle r s).reqs = s.reqs := rfl
@[simp] theorem enterSettle_events (r : Report) (s : State) : (enterSettle r s).events = s.events := rfl

/-! ## enterClosingGuard -/

@[simp] theorem enterClosingGuard_pending (r : Report) (s : State) : (enterClosingGuard r s).pending = s.pending := rfl
@[simp] theorem enterClosingGuard_freeCount (r : Report) (s : State) : (enterClosingGuard r s).freeCount = s.freeCount := rfl
@[simp] theorem enterClosingGuard_resetLow (r : Report) (s : State) : (enterClosingGuard r s).resetLow = s.resetLow := rfl
@[simp] theorem enterClosingGuard_clear (r : Report) (s : State) : (enterClosingGuard r s).clear = s.clear := rfl
@[simp] theorem enterClosingGuard_port (r : Report) (s : State) : (enterClosingGuard r s).port = s.port := rfl
@[simp] theorem enterClosingGuard_tb (r : Report) (s : State) : (enterClosingGuard r s).tb = s.tb := rfl
@[simp] theorem enterClosingGuard_stations (r : Report) (s : State) : (enterClosingGuard r s).stations = s.stations := rfl
@[simp] theorem enterClosingGuard_lists (r : Report) (s : State) : (enterClosingGuard r s).lists = s.lists := rfl
@[simp] theorem enterClosingGuard_sched (r : Report) (s : State) : (enterClosingGuard r s).sched = s.sched := rfl
@[simp] theorem enterClosingGuard_images (r : Report) (s : State) : (enterClosingGuard r s).images = s.images := rfl
@[simp] theorem enterClosingGuard_reqs (r : Report) (s : State) : (enterClosingGuard r s).reqs = s.reqs := rfl
@[simp] theorem enterClosingGuard_events (r : Report) (s : State) : (enterClosingGuard r s).events = s.events := rfl

/-! ## endReplyInError -/

@[simp] theorem endReplyInError_pending (c : RxError) (s : State) : (endReplyInError c s).pending = s.pending := rfl
@[simp] theorem endReplyInError_freeCount (c : RxError) (s : State) : (endReplyInError c s).freeCount = s.freeCount := rfl
@[simp] theorem endReplyInError_resetLow (c : RxError) (s : State) : (endReplyInError c s).resetLow = s.resetLow := rfl
@[simp] theorem endReplyInError_clear (c : RxError) (s : State) : (endReplyInError c s).clear = s.clear := rfl
@[simp] theorem endReplyInError_port (c : RxError) (s : State) : (endReplyInError c s).port = s.port := rfl
@[simp] theorem endReplyInError_tb (c : RxError) (s : State) : (endReplyInError c s).tb = s.tb := rfl
@[simp] theorem endReplyInError_stations (c : RxError) (s : State) : (endReplyInError c s).stations = s.stations := rfl
@[simp] theorem endReplyInError_lists (c : RxError) (s : State) : (endReplyInError c s).lists = s.lists := rfl
@[simp] theorem endReplyInError_sched (c : RxError) (s : State) : (endReplyInError c s).sched = s.sched := rfl
@[simp] theorem endReplyInError_images (c : RxError) (s : State) : (endReplyInError c s).images = s.images := rfl
@[simp] theorem endReplyInError_reqs (c : RxError) (s : State) : (endReplyInError c s).reqs = s.reqs := rfl
@[simp] theorem endReplyInError_events (c : RxError) (s : State) : (endReplyInError c s).events = s.events := rfl

/-! ## placeCompletion -/

@[simp] theorem placeCompletion_pending (c : Completion) (s : State) : (placeCompletion c s).pending = s.pending := rfl
@[simp] theorem placeCompletion_freeCount (c : Completion) (s : State) : (placeCompletion c s).freeCount = s.freeCount := rfl
@[simp] theorem placeCompletion_resetLow (c : Completion) (s : State) : (placeCompletion c s).resetLow = s.resetLow := rfl
@[simp] theorem placeCompletion_clear (c : Completion) (s : State) : (placeCompletion c s).clear = s.clear := rfl
@[simp] theorem placeCompletion_port (c : Completion) (s : State) : (placeCompletion c s).port = s.port := rfl
@[simp] theorem placeCompletion_tb (c : Completion) (s : State) : (placeCompletion c s).tb = s.tb := rfl
@[simp] theorem placeCompletion_line (c : Completion) (s : State) : (placeCompletion c s).line = s.line := rfl
@[simp] theorem placeCompletion_stations (c : Completion) (s : State) : (placeCompletion c s).stations = s.stations := rfl
@[simp] theorem placeCompletion_lists (c : Completion) (s : State) : (placeCompletion c s).lists = s.lists := rfl
@[simp] theorem placeCompletion_sched (c : Completion) (s : State) : (placeCompletion c s).sched = s.sched := rfl
@[simp] theorem placeCompletion_images (c : Completion) (s : State) : (placeCompletion c s).images = s.images := rfl
@[simp] theorem placeCompletion_events (c : Completion) (s : State) : (placeCompletion c s).events = s.events := rfl

/-! ## completeHead -/

@[simp] theorem completeHead_pending (c : Completion) (s : State) : (completeHead c s).pending = s.pending := rfl
@[simp] theorem completeHead_freeCount (c : Completion) (s : State) : (completeHead c s).freeCount = s.freeCount := rfl
@[simp] theorem completeHead_resetLow (c : Completion) (s : State) : (completeHead c s).resetLow = s.resetLow := rfl
@[simp] theorem completeHead_clear (c : Completion) (s : State) : (completeHead c s).clear = s.clear := rfl
@[simp] theorem completeHead_port (c : Completion) (s : State) : (completeHead c s).port = s.port := rfl
@[simp] theorem completeHead_tb (c : Completion) (s : State) : (completeHead c s).tb = s.tb := rfl
@[simp] theorem completeHead_line (c : Completion) (s : State) : (completeHead c s).line = s.line := rfl
@[simp] theorem completeHead_stations (c : Completion) (s : State) : (completeHead c s).stations = s.stations := rfl
@[simp] theorem completeHead_lists (c : Completion) (s : State) : (completeHead c s).lists = s.lists := rfl
@[simp] theorem completeHead_sched (c : Completion) (s : State) : (completeHead c s).sched = s.sched := rfl
@[simp] theorem completeHead_images (c : Completion) (s : State) : (completeHead c s).images = s.images := rfl
@[simp] theorem completeHead_events (c : Completion) (s : State) : (completeHead c s).events = s.events := rfl

/-! ## replaceHead -/

@[simp] theorem replaceHead_pending (r : Request) (s : State) : (replaceHead r s).pending = s.pending := rfl
@[simp] theorem replaceHead_freeCount (r : Request) (s : State) : (replaceHead r s).freeCount = s.freeCount := rfl
@[simp] theorem replaceHead_resetLow (r : Request) (s : State) : (replaceHead r s).resetLow = s.resetLow := rfl
@[simp] theorem replaceHead_clear (r : Request) (s : State) : (replaceHead r s).clear = s.clear := rfl
@[simp] theorem replaceHead_port (r : Request) (s : State) : (replaceHead r s).port = s.port := rfl
@[simp] theorem replaceHead_tb (r : Request) (s : State) : (replaceHead r s).tb = s.tb := rfl
@[simp] theorem replaceHead_line (r : Request) (s : State) : (replaceHead r s).line = s.line := rfl
@[simp] theorem replaceHead_stations (r : Request) (s : State) : (replaceHead r s).stations = s.stations := rfl
@[simp] theorem replaceHead_lists (r : Request) (s : State) : (replaceHead r s).lists = s.lists := rfl
@[simp] theorem replaceHead_sched (r : Request) (s : State) : (replaceHead r s).sched = s.sched := rfl
@[simp] theorem replaceHead_images (r : Request) (s : State) : (replaceHead r s).images = s.images := rfl
@[simp] theorem replaceHead_events (r : Request) (s : State) : (replaceHead r s).events = s.events := rfl

/-! ## publish -/

@[simp] theorem publish_pending (s : State) : (publish s).pending = s.pending := rfl
@[simp] theorem publish_freeCount (s : State) : (publish s).freeCount = s.freeCount := rfl
@[simp] theorem publish_resetLow (s : State) : (publish s).resetLow = s.resetLow := rfl
@[simp] theorem publish_clear (s : State) : (publish s).clear = s.clear := rfl
@[simp] theorem publish_port (s : State) : (publish s).port = s.port := rfl
@[simp] theorem publish_tb (s : State) : (publish s).tb = s.tb := rfl
@[simp] theorem publish_line (s : State) : (publish s).line = s.line := rfl
@[simp] theorem publish_stations (s : State) : (publish s).stations = s.stations := rfl
@[simp] theorem publish_lists (s : State) : (publish s).lists = s.lists := rfl
@[simp] theorem publish_sched (s : State) : (publish s).sched = s.sched := rfl
@[simp] theorem publish_reqs (s : State) : (publish s).reqs = s.reqs := rfl

/-! ## takeReady -/

@[simp] theorem takeReady_pending (s : State) : (takeReady s).pending = s.pending := rfl
@[simp] theorem takeReady_freeCount (s : State) : (takeReady s).freeCount = s.freeCount := rfl
@[simp] theorem takeReady_resetLow (s : State) : (takeReady s).resetLow = s.resetLow := rfl
@[simp] theorem takeReady_clear (s : State) : (takeReady s).clear = s.clear := rfl
@[simp] theorem takeReady_port (s : State) : (takeReady s).port = s.port := rfl
@[simp] theorem takeReady_tb (s : State) : (takeReady s).tb = s.tb := rfl
@[simp] theorem takeReady_line (s : State) : (takeReady s).line = s.line := rfl
@[simp] theorem takeReady_stations (s : State) : (takeReady s).stations = s.stations := rfl
@[simp] theorem takeReady_lists (s : State) : (takeReady s).lists = s.lists := rfl
@[simp] theorem takeReady_sched (s : State) : (takeReady s).sched = s.sched := rfl
@[simp] theorem takeReady_reqs (s : State) : (takeReady s).reqs = s.reqs := rfl
@[simp] theorem takeReady_events (s : State) : (takeReady s).events = s.events := rfl

/-! ## prepareFill -/

@[simp] theorem prepareFill_pending (t : Time) (l : Word) (s : State) : (prepareFill t l s).pending = s.pending := rfl
@[simp] theorem prepareFill_freeCount (t : Time) (l : Word) (s : State) : (prepareFill t l s).freeCount = s.freeCount := rfl
@[simp] theorem prepareFill_resetLow (t : Time) (l : Word) (s : State) : (prepareFill t l s).resetLow = s.resetLow := rfl
@[simp] theorem prepareFill_clear (t : Time) (l : Word) (s : State) : (prepareFill t l s).clear = s.clear := rfl
@[simp] theorem prepareFill_port (t : Time) (l : Word) (s : State) : (prepareFill t l s).port = s.port := rfl
@[simp] theorem prepareFill_tb (t : Time) (l : Word) (s : State) : (prepareFill t l s).tb = s.tb := rfl
@[simp] theorem prepareFill_line (t : Time) (l : Word) (s : State) : (prepareFill t l s).line = s.line := rfl
@[simp] theorem prepareFill_stations (t : Time) (l : Word) (s : State) : (prepareFill t l s).stations = s.stations := rfl
@[simp] theorem prepareFill_lists (t : Time) (l : Word) (s : State) : (prepareFill t l s).lists = s.lists := rfl
@[simp] theorem prepareFill_sched (t : Time) (l : Word) (s : State) : (prepareFill t l s).sched = s.sched := rfl
@[simp] theorem prepareFill_reqs (t : Time) (l : Word) (s : State) : (prepareFill t l s).reqs = s.reqs := rfl
@[simp] theorem prepareFill_events (t : Time) (l : Word) (s : State) : (prepareFill t l s).events = s.events := rfl

/-! ## writeOutcome -/

@[simp] theorem writeOutcome_pending (i : Slot) (c : SlotCode) (n : Byte) (f : BitVec 4) (t : Time) (b : List Byte) (s : State) : (writeOutcome i c n f t b s).pending = s.pending := rfl
@[simp] theorem writeOutcome_freeCount (i : Slot) (c : SlotCode) (n : Byte) (f : BitVec 4) (t : Time) (b : List Byte) (s : State) : (writeOutcome i c n f t b s).freeCount = s.freeCount := rfl
@[simp] theorem writeOutcome_resetLow (i : Slot) (c : SlotCode) (n : Byte) (f : BitVec 4) (t : Time) (b : List Byte) (s : State) : (writeOutcome i c n f t b s).resetLow = s.resetLow := rfl
@[simp] theorem writeOutcome_clear (i : Slot) (c : SlotCode) (n : Byte) (f : BitVec 4) (t : Time) (b : List Byte) (s : State) : (writeOutcome i c n f t b s).clear = s.clear := rfl
@[simp] theorem writeOutcome_port (i : Slot) (c : SlotCode) (n : Byte) (f : BitVec 4) (t : Time) (b : List Byte) (s : State) : (writeOutcome i c n f t b s).port = s.port := rfl
@[simp] theorem writeOutcome_tb (i : Slot) (c : SlotCode) (n : Byte) (f : BitVec 4) (t : Time) (b : List Byte) (s : State) : (writeOutcome i c n f t b s).tb = s.tb := rfl
@[simp] theorem writeOutcome_line (i : Slot) (c : SlotCode) (n : Byte) (f : BitVec 4) (t : Time) (b : List Byte) (s : State) : (writeOutcome i c n f t b s).line = s.line := rfl
@[simp] theorem writeOutcome_stations (i : Slot) (c : SlotCode) (n : Byte) (f : BitVec 4) (t : Time) (b : List Byte) (s : State) : (writeOutcome i c n f t b s).stations = s.stations := rfl
@[simp] theorem writeOutcome_lists (i : Slot) (c : SlotCode) (n : Byte) (f : BitVec 4) (t : Time) (b : List Byte) (s : State) : (writeOutcome i c n f t b s).lists = s.lists := rfl
@[simp] theorem writeOutcome_sched (i : Slot) (c : SlotCode) (n : Byte) (f : BitVec 4) (t : Time) (b : List Byte) (s : State) : (writeOutcome i c n f t b s).sched = s.sched := rfl
@[simp] theorem writeOutcome_reqs (i : Slot) (c : SlotCode) (n : Byte) (f : BitVec 4) (t : Time) (b : List Byte) (s : State) : (writeOutcome i c n f t b s).reqs = s.reqs := rfl
@[simp] theorem writeOutcome_events (i : Slot) (c : SlotCode) (n : Byte) (f : BitVec 4) (t : Time) (b : List Byte) (s : State) : (writeOutcome i c n f t b s).events = s.events := rfl

/-! ## clearBufferMemory -/

@[simp] theorem clearBufferMemory_pending (s : State) : (clearBufferMemory s).pending = s.pending := rfl
@[simp] theorem clearBufferMemory_freeCount (s : State) : (clearBufferMemory s).freeCount = s.freeCount := rfl
@[simp] theorem clearBufferMemory_resetLow (s : State) : (clearBufferMemory s).resetLow = s.resetLow := rfl
@[simp] theorem clearBufferMemory_clear (s : State) : (clearBufferMemory s).clear = s.clear := rfl
@[simp] theorem clearBufferMemory_port (s : State) : (clearBufferMemory s).port = s.port := rfl
@[simp] theorem clearBufferMemory_tb (s : State) : (clearBufferMemory s).tb = s.tb := rfl
@[simp] theorem clearBufferMemory_line (s : State) : (clearBufferMemory s).line = s.line := rfl
@[simp] theorem clearBufferMemory_stations (s : State) : (clearBufferMemory s).stations = s.stations := rfl
@[simp] theorem clearBufferMemory_lists (s : State) : (clearBufferMemory s).lists = s.lists := rfl
@[simp] theorem clearBufferMemory_sched (s : State) : (clearBufferMemory s).sched = s.sched := rfl
@[simp] theorem clearBufferMemory_events (s : State) : (clearBufferMemory s).events = s.events := rfl

/-! ## advanceWindow -/

@[simp] theorem advanceWindow_pending (s : State) : (advanceWindow s).pending = s.pending := rfl
@[simp] theorem advanceWindow_freeCount (s : State) : (advanceWindow s).freeCount = s.freeCount := rfl
@[simp] theorem advanceWindow_resetLow (s : State) : (advanceWindow s).resetLow = s.resetLow := rfl
@[simp] theorem advanceWindow_clear (s : State) : (advanceWindow s).clear = s.clear := rfl
@[simp] theorem advanceWindow_tb (s : State) : (advanceWindow s).tb = s.tb := rfl
@[simp] theorem advanceWindow_line (s : State) : (advanceWindow s).line = s.line := rfl
@[simp] theorem advanceWindow_stations (s : State) : (advanceWindow s).stations = s.stations := rfl
@[simp] theorem advanceWindow_lists (s : State) : (advanceWindow s).lists = s.lists := rfl
@[simp] theorem advanceWindow_sched (s : State) : (advanceWindow s).sched = s.sched := rfl
@[simp] theorem advanceWindow_images (s : State) : (advanceWindow s).images = s.images := rfl
@[simp] theorem advanceWindow_reqs (s : State) : (advanceWindow s).reqs = s.reqs := rfl
@[simp] theorem advanceWindow_events (s : State) : (advanceWindow s).events = s.events := rfl

/-! ## storeStaged -/

@[simp] theorem storeStaged_pending (a : Nat) (w : Word) (s : State) : (storeStaged a w s).pending = s.pending := rfl
@[simp] theorem storeStaged_freeCount (a : Nat) (w : Word) (s : State) : (storeStaged a w s).freeCount = s.freeCount := rfl
@[simp] theorem storeStaged_resetLow (a : Nat) (w : Word) (s : State) : (storeStaged a w s).resetLow = s.resetLow := rfl
@[simp] theorem storeStaged_clear (a : Nat) (w : Word) (s : State) : (storeStaged a w s).clear = s.clear := rfl
@[simp] theorem storeStaged_port (a : Nat) (w : Word) (s : State) : (storeStaged a w s).port = s.port := rfl
@[simp] theorem storeStaged_tb (a : Nat) (w : Word) (s : State) : (storeStaged a w s).tb = s.tb := rfl
@[simp] theorem storeStaged_line (a : Nat) (w : Word) (s : State) : (storeStaged a w s).line = s.line := rfl
@[simp] theorem storeStaged_stations (a : Nat) (w : Word) (s : State) : (storeStaged a w s).stations = s.stations := rfl
@[simp] theorem storeStaged_lists (a : Nat) (w : Word) (s : State) : (storeStaged a w s).lists = s.lists := rfl
@[simp] theorem storeStaged_sched (a : Nat) (w : Word) (s : State) : (storeStaged a w s).sched = s.sched := rfl
@[simp] theorem storeStaged_reqs (a : Nat) (w : Word) (s : State) : (storeStaged a w s).reqs = s.reqs := rfl
@[simp] theorem storeStaged_events (a : Nat) (w : Word) (s : State) : (storeStaged a w s).events = s.events := rfl

/-! ## tickTime -/

@[simp] theorem tickTime_pending (s : State) : (tickTime s).pending = s.pending := rfl
@[simp] theorem tickTime_freeCount (s : State) : (tickTime s).freeCount = s.freeCount := rfl
@[simp] theorem tickTime_resetLow (s : State) : (tickTime s).resetLow = s.resetLow := rfl
@[simp] theorem tickTime_clear (s : State) : (tickTime s).clear = s.clear := rfl
@[simp] theorem tickTime_port (s : State) : (tickTime s).port = s.port := rfl
@[simp] theorem tickTime_line (s : State) : (tickTime s).line = s.line := rfl
@[simp] theorem tickTime_stations (s : State) : (tickTime s).stations = s.stations := rfl
@[simp] theorem tickTime_lists (s : State) : (tickTime s).lists = s.lists := rfl
@[simp] theorem tickTime_sched (s : State) : (tickTime s).sched = s.sched := rfl
@[simp] theorem tickTime_images (s : State) : (tickTime s).images = s.images := rfl
@[simp] theorem tickTime_reqs (s : State) : (tickTime s).reqs = s.reqs := rfl
@[simp] theorem tickTime_events (s : State) : (tickTime s).events = s.events := rfl

/-! ## passClocks -/

@[simp] theorem passClocks_pending (n : Nat) (s : State) : (passClocks n s).pending = s.pending := rfl
@[simp] theorem passClocks_freeCount (n : Nat) (s : State) : (passClocks n s).freeCount = s.freeCount := rfl
@[simp] theorem passClocks_resetLow (n : Nat) (s : State) : (passClocks n s).resetLow = s.resetLow := rfl
@[simp] theorem passClocks_port (n : Nat) (s : State) : (passClocks n s).port = s.port := rfl
@[simp] theorem passClocks_stations (n : Nat) (s : State) : (passClocks n s).stations = s.stations := rfl
@[simp] theorem passClocks_lists (n : Nat) (s : State) : (passClocks n s).lists = s.lists := rfl
@[simp] theorem passClocks_sched (n : Nat) (s : State) : (passClocks n s).sched = s.sched := rfl
@[simp] theorem passClocks_images (n : Nat) (s : State) : (passClocks n s).images = s.images := rfl
@[simp] theorem passClocks_reqs (n : Nat) (s : State) : (passClocks n s).reqs = s.reqs := rfl
@[simp] theorem passClocks_events (n : Nat) (s : State) : (passClocks n s).events = s.events := rfl

/-! ## resetLine -/

@[simp] theorem resetLine_pending (s : State) : (resetLine s).pending = s.pending := rfl
@[simp] theorem resetLine_freeCount (s : State) : (resetLine s).freeCount = s.freeCount := rfl
@[simp] theorem resetLine_resetLow (s : State) : (resetLine s).resetLow = s.resetLow := rfl
@[simp] theorem resetLine_clear (s : State) : (resetLine s).clear = s.clear := rfl
@[simp] theorem resetLine_port (s : State) : (resetLine s).port = s.port := rfl
@[simp] theorem resetLine_tb (s : State) : (resetLine s).tb = s.tb := rfl
@[simp] theorem resetLine_stations (s : State) : (resetLine s).stations = s.stations := rfl
@[simp] theorem resetLine_lists (s : State) : (resetLine s).lists = s.lists := rfl
@[simp] theorem resetLine_sched (s : State) : (resetLine s).sched = s.sched := rfl
@[simp] theorem resetLine_images (s : State) : (resetLine s).images = s.images := rfl
@[simp] theorem resetLine_reqs (s : State) : (resetLine s).reqs = s.reqs := rfl
@[simp] theorem resetLine_events (s : State) : (resetLine s).events = s.events := rfl

end Sys2Proof.Machine
end

