-- ==== Sys2Proof/Laws/Commands.lean ====
section
/-! SUPPORT. What a host access and a command can do: served, or nothing (R157, R159, R160). -/

namespace Sys2Proof.Machine

theorem hostWrite_served {s : State} (h : s.serves) (f : State → State) : hostWrite f s = f s := by
  unfold hostWrite
  rw [h.1, if_neg (by decide), if_neg h.2]

theorem hostWrite_unserved {s : State} (h : ¬ s.serves) (f : State → State) : hostWrite f s = s := by
  unfold hostWrite
  by_cases hr : s.resetLow = true
  · rw [if_pos hr]
  · rw [if_neg hr, if_pos]
    by_contra hc
    exact h ⟨by simpa using hr, hc⟩

theorem hostRead_served {s : State} (h : s.serves) (f : State → Word × State) :
    hostRead f s = { (f s).2 with port.dataOut := some (f s).1 } := by
  unfold hostRead
  rw [h.1, if_neg (by decide), if_neg h.2]

/-- A read that is not served: nothing while RESETn is low, a 0 on the bus in RESETTING (R157, R159). -/
theorem hostRead_unserved {s : State} (h : ¬ s.serves) (f : State → Word × State) :
    hostRead f s = if s.resetLow = true then s else { s with port.dataOut := some 0 } := by
  unfold hostRead
  by_cases hr : s.resetLow = true
  · rw [if_pos hr, if_pos hr]
  · rw [if_neg hr, if_neg hr, if_pos]
    by_contra hc
    exact h ⟨by simpa using hr, hc⟩

theorem takeCommand_accepted {s t : State} (h : s.serves) {body : State → Except ResultCode State}
    (hb : body s = .ok t) (c a : Byte) : takeCommand c a body s = recordResult c a .accepted t := by
  unfold takeCommand
  rw [hostWrite_served h]
  simp only [hb]

theorem takeCommand_refused {s : State} (h : s.serves) {body : State → Except ResultCode State}
    {r : ResultCode} (hb : body s = .error r) (c a : Byte) :
    takeCommand c a body s = recordResult c a r s := by
  unfold takeCommand
  rw [hostWrite_served h]
  simp only [hb]

theorem takeCommand_unserved {s : State} (h : ¬ s.serves) (body : State → Except ResultCode State)
    (c a : Byte) : takeCommand c a body s = s := by
  unfold takeCommand
  exact hostWrite_unserved h _

/-- A property of a served write holds of every write that keeps it when nothing happens. -/
theorem hostWrite_keeps {P : State → Prop} {s : State} {f : State → State} (h : P s)
    (hf : s.serves → P (f s)) : P (hostWrite f s) := by
  by_cases hs : s.serves
  · rw [hostWrite_served hs]
    exact hf hs
  · rw [hostWrite_unserved hs]
    exact h

/-- A property that the word on the bus does not touch is kept by a read whose side effects keep it. -/
theorem hostRead_keeps {P : State → Prop} {s : State} {f : State → Word × State} (h : P s)
    (hd : ∀ t w, P t → P { t with port.dataOut := w }) (hf : s.serves → P (f s).2) :
    P (hostRead f s) := by
  by_cases hs : s.serves
  · rw [hostRead_served hs]
    exact hd _ _ (hf hs)
  · rw [hostRead_unserved hs]
    split
    · exact h
    · exact hd _ _ h

/-- A property that COMMAND and RESULT do not touch is kept by a command whose accepted effect keeps
it. -/
theorem takeCommand_keeps {P : State → Prop} {s : State} {body : State → Except ResultCode State}
    {c a : Byte} (h : P s) (hr : ∀ t r, P t → P (recordResult c a r t))
    (hb : s.serves → ∀ t, body s = .ok t → P t) : P (takeCommand c a body s) := by
  unfold takeCommand
  refine hostWrite_keeps h fun hs => ?_
  split
  · rename_i t ht
    exact hr _ _ (hb hs t ht)
  · exact hr _ _ h

theorem whenState_of {ok : CtrlState → Bool} {body : State → Except ResultCode State} {s : State}
    (h : ok s.sched.ctrl = true) : whenState ok body s = body s := by
  unfold whenState
  rw [if_pos h]

theorem whenState_wrong {ok : CtrlState → Bool} {body : State → Except ResultCode State} {s : State}
    (h : ok s.sched.ctrl = false) : whenState ok body s = .error .wrongState := by
  unfold whenState
  rw [h, if_neg (by decide)]

/-- An accepted command was in a state that takes it, and passed its own checks. -/
theorem whenState_ok {ok : CtrlState → Bool} {body : State → Except ResultCode State} {s t : State}
    (h : whenState ok body s = .ok t) : ok s.sched.ctrl = true ∧ body s = .ok t := by
  unfold whenState at h
  split at h
  · rename_i hk
    exact ⟨hk, h⟩
  · cases h

end Sys2Proof.Machine
end

