-- ==== Sys2Proof/Laws/Effects.lean ====
section
/-! SUPPORT. What an accepted command can have done, with what its checks established; what a register
write can have done. -/

namespace Sys2Proof.Machine

/-- The effect of an accepted command, with what is known of the state it was taken in. -/
inductive Accepted (s : State) : State → Prop
  | start (hc : s.sched.ctrl = .config) (hv : s.startValuesOk = true)
      (hb : s.budgetPasses none s.upcomingList = true) : Accepted s (startRun s)
  | stop (hc : s.sched.ctrl = .running) : Accepted s (stopRun s)
  | clearFault (hc : s.sched.ctrl = .faulted) : Accepted s { s with sched.ctrl := .config }
  | softReset : Accepted s (softResetRun s)
  | enableStation (i : Slot) (he : (s.station i).enabled = false)
      (hf : (s.station i).areasFit = true) (ha : s.addressFree i = true) (ho : s.areasFree i = true)
      (hb : s.enableBudgetOk i = true) : Accepted s (s.modifyStation i Station.enable)
  | disableStation (i : Slot) (he : (s.station i).enabled = true) : Accepted s (disableRun i s)
  | clearStation (i : Slot) : Accepted s (s.modifyStation i Station.clearCounters)
  | clearLine : Accepted s { s with line.counters := Vector.replicate 13 0 }
  | switchPending (hc : s.sched.ctrl = .running) (hp : s.lists.pendingSwitch = false) :
      Accepted s { s with lists.pendingSwitch := true }
  | switchNow (hc : s.sched.ctrl ≠ .running) (hs : s.sched.ctrl ≠ .stopping)
      (hp : s.lists.pendingSwitch = false) : Accepted s { s with lists.active := !s.lists.active }
  | commit (hc : s.sched.ctrl ≠ .faulted) (hp : s.images.commitPending = false) :
      Accepted s { s with images.commitPending := true }
  | take (hf : s.images.inputFresh = true) : Accepted s (takeReady s)
  | post (hl : s.reqs.queue.length < 8) :
      Accepted s (quietAdmission { s with reqs.queue := s.reqs.queue ++ [s.composedRequest] })
  | cancelInFlight (r : Request) (hr : s.requestInFlight = some r) :
      Accepted s (quietAdmission (cancelInFlight r s))
  | withdraw (tag : Byte) (r : Request) (rest : List Request)
      (hw : Machine.withdraw tag s.reqs.queue = some (r, rest)) (hp : s.reqs.placeFree = true) :
      Accepted s (quietAdmission (withdrawQueued r rest s))
  | popCompletion (c : Completion) (cs : List Completion) (hc : s.reqs.completions = c :: cs) :
      Accepted s (quietAdmission { s with reqs.completions := cs })
  | popEvent (e : EventRecord) (es : List EventRecord) (he : s.events.queue = e :: es) :
      Accepted s { s with events.queue := es }
  | clearLoss : Accepted s { s with events.lossCount := 0 }

theorem accepted_start {s t : State} (h : startBody s = .ok t) : Accepted s t := by
  obtain ⟨hc, hb⟩ := whenState_ok h
  split at hb
  · cases hb
  · split at hb
    · cases hb
    · cases hb
      exact .start (by simpa using hc) (by simp_all) (by simp_all)

theorem accepted_enable {s t : State} {a : Byte} (h : enableStationBody a s = .ok t) : Accepted s t := by
  unfold enableStationBody at h
  (repeat' split at h) <;> cases h
  exact .enableStation _ (by simp_all) (by simp_all) (by simp_all) (by simp_all) (by simp_all)

theorem accepted_switch {s t : State} (h : switchListBody s = .ok t) : Accepted s t := by
  obtain ⟨hc, hb⟩ := whenState_ok h
  split at hb
  · cases hb
  · split at hb
    · cases hb
    · split at hb <;> cases hb
      · exact .switchPending (by assumption) (by simp_all)
      · exact .switchNow (by assumption) (by simpa using hc) (by simp_all)

theorem accepted_cancel {s t : State} {a : Byte} (h : cancelRequestBody a s = .ok t) : Accepted s t := by
  unfold cancelRequestBody at h
  split at h
  · rename_i r hr
    cases h
    refine .cancelInFlight r ?_
    unfold cancelFindsInFlight at hr
    rw [Option.filter_eq_some_iff] at hr
    exact hr.1
  · split at h
    · cases h
    · split at h
      · cases h
        exact .withdraw _ _ _ (by assumption) (by assumption)
      · cases h

/-- Every accepted command has one of these effects. -/
theorem accepted_of_ok {s t : State} {c a : Byte} (h : commandBody c a s = .ok t) : Accepted s t := by
  unfold commandBody at h
  generalize c.toNat = n at h
  split at h
  · exact accepted_start h
  · obtain ⟨hc, hb⟩ := whenState_ok h
    cases hb
    exact .stop (by simpa using hc)
  · obtain ⟨hc, hb⟩ := whenState_ok h
    cases hb
    exact .clearFault (by simpa using hc)
  · cases h
    exact .softReset
  · exact accepted_enable h
  · unfold disableStationBody at h
    (repeat' split at h) <;> cases h
    exact .disableStation _ (by assumption)
  · unfold clearCountersBody at h
    (repeat' split at h) <;> cases h
    · exact .clearStation _
    · exact .clearLine
  · exact accepted_switch h
  · obtain ⟨hc, hb⟩ := whenState_ok h
    split at hb <;> cases hb
    exact .commit (by simpa using hc) (by simp_all)
  · unfold takeInputsBody at h
    split at h <;> cases h
    exact .take (by assumption)
  · unfold postRequestBody at h
    split at h <;> cases h
    exact .post (by simp_all [Config.requestPlaces])
  · exact accepted_cancel h
  · unfold popCompletionBody at h
    split at h <;> cases h
    exact .popCompletion _ _ (by assumption)
  · unfold popEventBody at h
    split at h <;> cases h
    exact .popEvent _ _ (by assumption)
  · cases h
    exact .clearLoss
  · cases h

/-- A write judged by its word keeps what its effect keeps and ACCESS keeps. -/
theorem takeWord_keeps {α : Type} {P : State → Prop} {v : Option α} {f : α → State → State} {s : State}
    (ha : P (setAccess s)) (hf : ∀ x, v = some x → P (f x s)) : P (takeWord v f s) := by
  unfold takeWord
  split
  · exact hf _ rfl
  · exact ha

/-- What a write of a register other than COMMAND can have done, with what is known where it does it. -/
inductive Written (s : State) : State → Prop
  | access : Written s (setAccess s)
  | latched (m : BitVec 7) : Written s (clearLatched m s)
  | intEnable (m : BitVec 7) : Written s { s with events.intEnable := m }
  | stnSel (i : Slot) : Written s { s with port.stnSel := i }
  | station (r : StationReg) (w : Word) (q : Station) (he : (s.station s.port.stnSel).enabled = false)
      (hq : (s.station s.port.stnSel).configured r w = some q) : Written s (s.setStation s.port.stnSel q)
  | listSel (p : BitVec 6) : Written s { s with port.listSel := p }
  | listEntry (w : Word) (e : ListEntry) (hp : s.lists.pendingSwitch = false)
      (he : entryOfWord w = some e) : Written s (setShadowEntry e s)
  | listLen (w : Word) (n : BitVec 7) (hp : s.lists.pendingSwitch = false)
      (hn : lengthOfWord w = some n) :
      Written s { s with lists := s.lists.setShadow { s.lists.shadowList with len := n } }
  | composer (c : Composer) : Written s { s with reqs.composer := c }
  | lcntSel (n : BitVec 4) : Written s { s with port.lcntSel := n }
  | config (r : ConfigReg) (w : Word) (hc : s.sched.ctrl = .config) : Written s (storeConfig r w s)
  | syncMode (p : Bool × Bool) (hc : s.sched.ctrl = .config) : Written s (storeSyncMode p s)
  | winAddr (w : Word) (a : BitVec 12) (ha : windowAddressOfWord w = some a) :
      Written s { s with port.winAddr := a }
  | staged (a : Nat) (w : Word) (ha : windowPlace s.port.winAddr.toNat = .staged a)
      (hp : s.images.commitPending = false) : Written s (advanceWindow (storeStaged a w s))
  | payload (k : Nat) (w : Word) (hk : windowPlace s.port.winAddr.toNat = .composer k) :
      Written s (advanceWindow
        { s with reqs.payload := Memory.writeAll s.reqs.payload k (wordBytes w) })
  | windowAccess : Written s (advanceWindow (setAccess s))

theorem written_word {α : Type} {v : Option α} {f : α → State → State} {s : State}
    (hf : ∀ x, v = some x → Written s (f x s)) : Written s (takeWord v f s) :=
  takeWord_keeps .access hf

theorem written_window (w : Word) (s : State) : Written s (writeWindow w s) := by
  unfold writeWindow storeWindow
  split
  · split
    · exact .windowAccess
    · exact .staged _ _ (by assumption) (by simp_all)
  · exact .payload _ _ (by assumption)
  all_goals exact .windowAccess

/-- Every write of a register other than COMMAND has one of these effects. -/
theorem written_of_writeReg {r : Reg} (hr : r ≠ .command) (w : Word) (s : State) :
    Written s (writeReg r w s) := by
  cases r
  case command => exact absurd rfl hr
  case intStatus =>
    show Written s (writeIntStatus w s)
    unfold writeIntStatus
    exact written_word fun x _ => .latched x
  case intEnable =>
    show Written s (writeIntEnable w s)
    unfold writeIntEnable
    exact written_word fun x _ => .intEnable x
  case stnSel =>
    show Written s (writeStnSel w s)
    unfold writeStnSel
    exact written_word fun x _ => .stnSel x
  case station c =>
    show Written s (writeStationConfig c w s)
    unfold writeStationConfig
    dsimp only
    split
    · exact .access
    · exact written_word fun q hq => .station c w q (by simp_all) hq
  case listSel =>
    show Written s (writeListSel w s)
    unfold writeListSel
    exact written_word fun x _ => .listSel x
  case listEntry =>
    show Written s (writeListEntry w s)
    unfold writeListEntry
    split
    · exact .access
    · exact written_word fun e he => .listEntry w e (by simp_all) he
  case listLen =>
    show Written s (writeListLen w s)
    unfold writeListLen
    split
    · exact .access
    · exact written_word fun n hn => .listLen w n (by simp_all) hn
  case composer c =>
    show Written s (writeComposer c w s)
    unfold writeComposer
    exact written_word fun x _ => .composer x
  case lcntSel =>
    show Written s (writeLcntSel w s)
    unfold writeLcntSel
    exact written_word fun x _ => .lcntSel x
  case config c =>
    show Written s (writeConfig c w s)
    unfold writeConfig inConfig
    split
    · exact .config c w (by assumption)
    · exact .access
  case syncMode =>
    show Written s (writeSyncMode w s)
    unfold writeSyncMode inConfig
    split
    · exact written_word fun p _ => .syncMode p (by assumption)
    · exact .access
  case winAddr =>
    show Written s (writeWindowAddress w s)
    unfold writeWindowAddress
    split
    · exact .winAddr w _ (by assumption)
    · exact .access
  case winData => exact written_window w s
  all_goals exact .access

/-- What a read of a register can have done beside returning its word. -/
theorem readReg_cases (r : Reg) (s : State) :
    (readReg r s).2 = s ∨ (readReg r s).2 = { s with port.timeSnapshot := timeHi s.tb.time }
      ∨ (readReg r s).2 = advanceWindow s ∨ (readReg r s).2 = setAccess (advanceWindow s) := by
  cases r
  case timeLo => exact Or.inr (Or.inl rfl)
  case winData =>
    show (readWindow s).2 = s ∨ (readWindow s).2 = _ ∨ (readWindow s).2 = _ ∨ (readWindow s).2 = _
    unfold readWindow
    dsimp only
    split
    · exact Or.inr (Or.inr (Or.inr rfl))
    · exact Or.inr (Or.inr (Or.inl rfl))
  all_goals exact Or.inl rfl

end Sys2Proof.Machine
end

