-- ==== Sys2Proof/Laws/Step.lean ====
section
/-! SUPPORT. What one step can do: the command at the front, or what the block does by itself; and TIME as a
later state looks back on it. -/

namespace Sys2Proof.Machine

@[simp] theorem step_cons {s : State} {c : Instr} {q : List Instr} (h : s.pending = c :: q) :
    step s = exec c { s with pending := q } := by
  unfold step
  rw [h]

theorem step_nil {s : State} (h : s.pending = []) : step s = idle s := by
  unfold step
  rw [h]

/-- What the block does by itself: one CLKIN period passes, or one due expiry is taken. -/
theorem idle_cases (s : State) :
    (dueEvents s = [] ∧ idle s = .next (passClock s))
      ∨ (∃ c, dueEvents s = [c] ∧ idle s = exec c s)
      ∨ ∃ c ∈ dueEvents s, idle s = exec c { s with freeCount := s.freeCount + 1 } := by
  unfold idle
  split
  · exact Or.inl ⟨by assumption, rfl⟩
  · rename_i c h
    exact Or.inr (Or.inl ⟨c, h, rfl⟩)
  · rename_i c d cs h
    refine Or.inr (Or.inr ⟨_, ?_, rfl⟩)
    have hlt : Config.pickDue s.freeCount % (cs.length + 2) < (c :: d :: cs).length := by
      simpa using Nat.mod_lt (Config.pickDue s.freeCount) (Nat.succ_pos (cs.length + 1))
    rw [h, List.getD_eq_getElem _ _ hlt]
    exact List.getElem_mem hlt

/-- A property that the queue and the free count do not touch, that the passing of a CLKIN period keeps
and every command keeps, is kept by every step. -/
theorem step_keeps {P : State → Prop} (hq : ∀ s q, P s → P { s with pending := q })
    (hn : ∀ s n, P s → P { s with freeCount := n }) (hc : ∀ s, P s → P (passClock s))
    (he : ∀ i s t, P s → exec i s = .next t → P t) {s t : State} (h : P s)
    (hs : step s = .next t) : P t := by
  match hp : s.pending with
  | c :: q =>
    rw [step_cons hp] at hs
    exact he c _ t (hq s q h) hs
  | [] =>
    rw [step_nil hp] at hs
    rcases idle_cases s with ⟨_, hi⟩ | ⟨c, _, hi⟩ | ⟨c, _, hi⟩
    · rw [hi] at hs
      cases hs
      exact hc s h
    · rw [hi] at hs
      exact he c s t h hs
    · rw [hi] at hs
      exact he c _ t (hn s _ h) hs

/-! ## TIME looked back on -/

/-- No time ago TIME stood at what it is. -/
@[simp] theorem TimeBase.ago_zero (t : TimeBase) : t.ago 0 = t.time := by
  unfold TimeBase.ago Config.microClocks
  have h : (0 + (32 - 1) - t.prescaler.toNat) / 32 = 0 := by omega
  rw [h]
  exact BitVec.sub_zero _

/-- A CLKIN period later, the same instant lies one period further back. -/
theorem TimeBase.ago_passClock {s : State} (h : s.resetLow = false) (n : Nat) :
    (passClock s).tb.ago (n + 1) = s.tb.ago n := by
  unfold passClock
  rw [if_neg (by simp [h])]
  split
  · rename_i h31
    show s.tb.time + 1 - BitVec.ofNat 32 ((n + 1 + (32 - 1) - 0) / 32)
      = s.tb.time - BitVec.ofNat 32 ((n + (32 - 1) - s.tb.prescaler.toNat) / 32)
    have hp : s.tb.prescaler.toNat = 31 := by rw [h31]; rfl
    have h1 : (n + 1 + (32 - 1) - 0) / 32 = n / 32 + 1 := by omega
    have h2 : (n + (32 - 1) - s.tb.prescaler.toNat) / 32 = n / 32 := by omega
    rw [h1, h2, BitVec.ofNat_add]
    bv_omega
  · rename_i h31
    show s.tb.time - BitVec.ofNat 32 ((n + 1 + (32 - 1) - (s.tb.prescaler + 1).toNat) / 32)
      = s.tb.time - BitVec.ofNat 32 ((n + (32 - 1) - s.tb.prescaler.toNat) / 32)
    have hp : (s.tb.prescaler + 1).toNat = s.tb.prescaler.toNat + 1 := by bv_omega
    rw [hp]
    congr 3
    omega

end Sys2Proof.Machine
end

