-- ==== Sys2Proof/Laws/Exec.lean ====
section
/-! SUPPORT. Everything a step can do, said once: a property kept by each of the shared operations is
kept by every step. -/

namespace Sys2Proof

open Machine in
/-- The register a write row with a register of its own writes, with its word. -/
def Instr.writes : Instr → Option (Reg × Word)
  | .winDataWrite w => some (.winData, w)
  | .winAddrWrite w => some (.winAddr, w)
  | .intStatusWrite w => some (.intStatus, w)
  | .intEnableWrite w => some (.intEnable, w)
  | .stnSelWrite w => some (.stnSel, w)
  | .stationConfigWrite r w => some (.station r, w)
  | .listSelWrite w => some (.listSel, w)
  | .listEntryWrite w => some (.listEntry, w)
  | .listLenWrite w => some (.listLen, w)
  | .composerWrite r w => some (.composer r, w)
  | .lcntSelWrite w => some (.lcntSel, w)
  | .configRegisterWrite r w => some (.config r, w)
  | .syncModeWrite w => some (.syncMode, w)
  | _ => none

end Sys2Proof

namespace Sys2Proof.Machine

/-- A command row is its code's checks and effects behind the command register. -/
theorem exec_command {i : Instr} {c a : Byte} (h : i.commandBytes = some (c, a)) (s : State) :
    exec i s = .next (takeCommand c a (commandBody c a) s) := by
  cases i <;> simp only [Instr.commandBytes, Option.some.injEq, Prod.mk.injEq, reduceCtorEq] at h <;>
    (obtain ⟨rfl, rfl⟩ := h; rfl)

/-- A write row with a register of its own is the write of that register. -/
theorem exec_write {i : Instr} {r : Reg} {w : Word} (h : i.writes = some (r, w)) (s : State) :
    exec i s = .next (hostWrite (writeReg r w) s) := by
  cases i <;> simp only [Instr.writes, Option.some.injEq, Prod.mk.injEq, reduceCtorEq] at h <;>
    (obtain ⟨rfl, rfl⟩ := h; rfl)

/-- No row writes COMMAND but the commands. -/
theorem writes_ne_command {i : Instr} {r : Reg} {w : Word} (h : i.writes = some (r, w)) :
    r ≠ .command := by
  cases i <;> simp only [Instr.writes, Option.some.injEq, Prod.mk.injEq, reduceCtorEq] at h <;>
    (obtain ⟨rfl, rfl⟩ := h; simp)

/-- What has to keep a property for every step to keep it: one field for each thing a step can do, with
what is known where it does it. -/
structure Keeps (P : State → Prop) : Prop where
  pending : ∀ s q, P s → P { s with pending := q }
  freeCount : ∀ s n, P s → P { s with freeCount := n }
  dataOut : ∀ s w, P s → P { s with port.dataOut := w }
  result : ∀ s c a r, P s → P (recordResult c a r s)
  access : ∀ s, P s → s.serves → P (setAccess s)
  command : ∀ s t, P s → s.serves → Accepted s t → P t
  write : ∀ s t, P s → s.serves → Written s t → P t
  snapshot : ∀ s, P s → P { s with port.timeSnapshot := timeHi s.tb.time }
  advance : ∀ s, P s → P (advanceWindow s)
  resetLow : ∀ s, P s → P { State.powerOn with pending := s.pending, freeCount := s.freeCount }
  release : ∀ s, P s → s.resetLow = true → P { s with resetLow := false, clear := some 0 }
  clearEnd : ∀ s, P s → s.clearDue = true → P (clearEnds s)
  tick : ∀ s, P s → P (passMicrosecond s)
  clock : ∀ s, P s → P (passClock s)
  edge : ∀ s, P s → s.tb.armed = true → s.tb.external = true → P (trackEdge s)
  arrival : ∀ s, P s → s.listening = true → P (takeArrival (expireOverdue s))
  discard : ∀ s c, P s → s.toSample = some c → P (discardArrival c s)
  sample : ∀ s c, P s → s.toSample = some c → P { s with line.rx := some { c with sampled := true } }
  completion : ∀ s r c, P s → s.toComplete = some r →
    P (characterEnds r c { s with line.rx := none, line.quiet := some 0 })
  echo : ∀ s, P s → P (restartQuiet s)
  sent : ∀ s p, P s → s.line.engine = .transmit → s.line.piece = some p → P (characterSent p s)
  collision : ∀ s p, P s → s.line.engine = .transmit → s.line.piece = some p → P (collide s)
  window : ∀ s, P s → s.windowDue = true → P (windowExpires s)
  gap : ∀ s, P s → s.gapDue = true → P (gapExpires s)
  opening : ∀ s p, P s → s.openingPiece = some p → P (beginTransmit p s)
  settle : ∀ s, P s → s.settleDue = true → P (settleEnds s)
  closing : ∀ s p r, P s → s.closingPiece = some (p, r) → P (reportPiece p r s)
  busy : ∀ s, P s → s.busyDue = true → P (lineFault .busy s)
  cycleTimer : ∀ s, P s → s.cycleTimerDue = true → P (cycleTimerExpires s)
  syncWindow : ∀ s, P s → s.syncWindowDue = true → P (generateStart s)
  pulse : ∀ s, P s → P { s with tb.syncout := none }

namespace Keeps

variable {P : State → Prop}

theorem takeCommand (k : Keeps P) {s : State} (h : P s) (c a : Byte) :
    P (takeCommand c a (commandBody c a) s) :=
  takeCommand_keeps h (fun t r => k.result t c a r) fun hs t ht => k.command s t h hs (accepted_of_ok ht)

theorem writeReg (k : Keeps P) {s : State} (h : P s) (hs : s.serves) (r : Reg) (w : Word) :
    P (writeReg r w s) := by
  by_cases hr : r = .command
  · subst hr
    exact k.takeCommand h (loByte w) (hiByte w)
  · exact k.write s _ h hs (written_of_writeReg hr w s)

theorem readReg (k : Keeps P) {s : State} (h : P s) (hs : s.serves) (r : Reg) :
    P (readReg r s).2 := by
  rcases readReg_cases r s with e | e | e | e <;> rw [e]
  · exact h
  · exact k.snapshot s h
  · exact k.advance s h
  · exact k.access _ (k.advance s h) hs

theorem readOffset (k : Keeps P) {s : State} (h : P s) (hs : s.serves) (a : BitVec 6) :
    P (readOffset a s).2 := by
  unfold Machine.readOffset
  split
  · exact k.readReg h hs _
  · exact k.access s h hs

theorem writeOffset (k : Keeps P) {s : State} (h : P s) (hs : s.serves) (a : BitVec 6) (w : Word) :
    P (writeOffset a w s) := by
  unfold Machine.writeOffset
  split
  · exact k.writeReg h hs _ w
  · exact k.access s h hs

theorem echoCheck (k : Keeps P) {s : State} (h : P s) (e : Option Echo) {t : State}
    (ht : execEchoCheck e s = .next t) : P t := by
  unfold execEchoCheck at ht
  cases ht
  unfold State.sentPiece
  split
  · exact h
  · rename_i p hp
    split at hp
    · rename_i he
      dsimp only
      have hq : P (if e.isSome then restartQuiet s else s) := by
        split
        · exact k.echo s h
        · exact h
      have hen : (if e.isSome then restartQuiet s else s).line.engine = .transmit := by
        split <;> exact he.1
      have hpc : (if e.isSome then restartQuiet s else s).line.piece = some p := by
        split <;> exact hp
      split
      · exact k.sent _ p hq hen hpc
      · exact k.collision _ p hq hen hpc
    · cases hp

/-- Every row keeps what every one of these operations keeps. -/
theorem exec (k : Keeps P) {s t : State} (h : P s) (i : Instr) (ht : exec i s = .next t) : P t := by
  match hc : i.commandBytes with
  | some (c, a) =>
    rw [exec_command hc] at ht
    cases ht
    exact k.takeCommand h c a
  | none =>
    match hw : i.writes with
    | some (r, w) =>
      rw [exec_write hw] at ht
      cases ht
      exact hostWrite_keeps h fun hs => k.writeReg h hs r w
    | none =>
      cases i <;> simp only [Instr.commandBytes, Instr.writes, reduceCtorEq] at hc hw
      case timeLoRead =>
        cases ht
        exact hostRead_keeps h (fun t w => k.dataOut t w) fun hs => k.readReg h hs .timeLo
      case winDataRead =>
        cases ht
        exact hostRead_keeps h (fun t w => k.dataOut t w) fun hs => k.readReg h hs .winData
      case registerWrite a w =>
        cases ht
        exact hostWrite_keeps h fun hs => k.writeOffset h hs a w
      case unmappedRegisterRead a =>
        cases ht
        exact hostRead_keeps h (fun t w => k.dataOut t w) fun hs => k.readOffset h hs a
      case resetnLow =>
        cases ht
        exact k.resetLow s h
      case resetnRelease =>
        cases ht
        split
        · exact k.release s h (by assumption)
        · exact h
      case bufferClearEnd =>
        cases ht
        split
        · exact k.clearEnd s h (by assumption)
        · exact h
      case timeTick =>
        cases ht
        exact k.tick s h
      case syncinEdge e =>
        cases ht
        split
        · rename_i he
          simp only [Bool.and_eq_true] at he
          exact k.edge s h he.1.1 he.1.2
        · exact h
      case rxdCharacterArrival =>
        cases ht
        split
        · exact k.arrival s h (by assumption)
        · exact h
      case characterCompletion c =>
        cases ht
        split
        · exact h
        · exact k.completion s _ c h (by assumption)
      case echoCheck e => exact k.echoCheck h e ht
      case responseWindowExpiry =>
        cases ht
        split
        · exact k.window s h (by assumption)
        · exact h
      case charGapExpiry =>
        cases ht
        split
        · exact k.gap s h (by assumption)
        · exact h
      case openingGuardEnd =>
        cases ht
        split
        · exact k.opening s _ h (by assumption)
        · exact h
      case settleEnd =>
        cases ht
        split
        · exact k.settle s h (by assumption)
        · exact h
      case closingGuardEnd =>
        cases ht
        split
        · exact k.closing s _ _ h (by assumption)
        · exact h
      case busyLimitExpiry =>
        cases ht
        split
        · exact k.busy s h (by assumption)
        · exact h
      case cycleTimerExpiry =>
        cases ht
        split
        · exact k.cycleTimer s h (by assumption)
        · exact h
      case syncWindowExpiry =>
        cases ht
        split
        · exact k.syncWindow s h (by assumption)
        · exact h
      case syncoutPulseEnd =>
        cases ht
        split
        · exact k.pulse s h
        · exact h
      case startBitMiddleSample l =>
        cases ht
        split
        · exact h
        · split
          · exact k.discard s _ h (by assumption)
          · exact k.sample s _ h (by assumption)

/-- Every step keeps it. -/
theorem step (k : Keeps P) {s t : State} (h : P s) (ht : step s = .next t) : P t :=
  step_keeps k.pending k.freeCount k.clock (fun i _ _ hs hi => k.exec hs i hi) h ht

end Keeps

end Sys2Proof.Machine
end

