-- ==== Sys2Proof/Laws/Frames.lean ====
section
/-! SUPPORT. What each shared operation leaves unchanged: one lemma for each operation, over the fields
of State it does not touch. -/

namespace Sys2Proof.Machine

@[simp] theorem notify_frame (c : EventCode) (b : Byte) (n d : Word) (s : State) :
    (notify c b n d s).pending = s.pending ∧ (notify c b n d s).freeCount = s.freeCount
      ∧ (notify c b n d s).resetLow = s.resetLow ∧ (notify c b n d s).clear = s.clear
      ∧ (notify c b n d s).port = s.port ∧ (notify c b n d s).tb = s.tb
      ∧ (notify c b n d s).line = s.line ∧ (notify c b n d s).stations = s.stations
      ∧ (notify c b n d s).lists = s.lists ∧ (notify c b n d s).sched = s.sched
      ∧ (notify c b n d s).images = s.images ∧ (notify c b n d s).reqs = s.reqs := by
  unfold notify
  (repeat' split) <;> simp

@[simp] theorem notifyStation_frame (c : EventCode) (i : Slot) (d : Word) (s : State) :
    (notifyStation c i d s).pending = s.pending ∧ (notifyStation c i d s).freeCount = s.freeCount
      ∧ (notifyStation c i d s).resetLow = s.resetLow ∧ (notifyStation c i d s).clear = s.clear
      ∧ (notifyStation c i d s).port = s.port ∧ (notifyStation c i d s).tb = s.tb
      ∧ (notifyStation c i d s).line = s.line ∧ (notifyStation c i d s).stations = s.stations
      ∧ (notifyStation c i d s).lists = s.lists ∧ (notifyStation c i d s).sched = s.sched
      ∧ (notifyStation c i d s).images = s.images ∧ (notifyStation c i d s).reqs = s.reqs := by
  unfold notifyStation
  simp

@[simp] theorem notifySync_frame (c : EventCode) (s : State) : (notifySync c s).pending = s.pending
      ∧ (notifySync c s).freeCount = s.freeCount ∧ (notifySync c s).resetLow = s.resetLow
      ∧ (notifySync c s).clear = s.clear ∧ (notifySync c s).port = s.port ∧ (notifySync c s).tb = s.tb
      ∧ (notifySync c s).line = s.line ∧ (notifySync c s).stations = s.stations
      ∧ (notifySync c s).lists = s.lists ∧ (notifySync c s).sched = s.sched
      ∧ (notifySync c s).images = s.images ∧ (notifySync c s).reqs = s.reqs := by
  unfold notifySync
  simp

@[simp] theorem postGoodHealth_frame (i : Slot) (h : Health) (s : State) :
    (postGoodHealth i h s).pending = s.pending ∧ (postGoodHealth i h s).freeCount = s.freeCount
      ∧ (postGoodHealth i h s).resetLow = s.resetLow ∧ (postGoodHealth i h s).clear = s.clear
      ∧ (postGoodHealth i h s).port = s.port ∧ (postGoodHealth i h s).tb = s.tb
      ∧ (postGoodHealth i h s).line = s.line ∧ (postGoodHealth i h s).stations = s.stations
      ∧ (postGoodHealth i h s).lists = s.lists ∧ (postGoodHealth i h s).sched = s.sched
      ∧ (postGoodHealth i h s).images = s.images ∧ (postGoodHealth i h s).reqs = s.reqs := by
  unfold postGoodHealth
  (repeat' split) <;> simp

@[simp] theorem applyGoodReply_frame (i : Slot) (f : BitVec 4) (t : Time) (s : State) :
    (applyGoodReply i f t s).pending = s.pending ∧ (applyGoodReply i f t s).freeCount = s.freeCount
      ∧ (applyGoodReply i f t s).resetLow = s.resetLow ∧ (applyGoodReply i f t s).clear = s.clear
      ∧ (applyGoodReply i f t s).port = s.port ∧ (applyGoodReply i f t s).tb = s.tb
      ∧ (applyGoodReply i f t s).line = s.line ∧ (applyGoodReply i f t s).lists = s.lists
      ∧ (applyGoodReply i f t s).sched = s.sched ∧ (applyGoodReply i f t s).images = s.images
      ∧ (applyGoodReply i f t s).reqs = s.reqs := by
  unfold applyGoodReply
  dsimp only
  (repeat' split) <;> simp

@[simp] theorem applyFailure_frame (i : Slot) (b : Bool) (s : State) :
    (applyFailure i b s).pending = s.pending ∧ (applyFailure i b s).freeCount = s.freeCount
      ∧ (applyFailure i b s).resetLow = s.resetLow ∧ (applyFailure i b s).clear = s.clear
      ∧ (applyFailure i b s).port = s.port ∧ (applyFailure i b s).tb = s.tb
      ∧ (applyFailure i b s).line = s.line ∧ (applyFailure i b s).lists = s.lists
      ∧ (applyFailure i b s).sched = s.sched ∧ (applyFailure i b s).images = s.images
      ∧ (applyFailure i b s).reqs = s.reqs := by
  unfold applyFailure
  dsimp only
  (repeat' split) <;> simp

@[simp] theorem applyCommit_frame (s : State) : (applyCommit s).pending = s.pending
      ∧ (applyCommit s).freeCount = s.freeCount ∧ (applyCommit s).resetLow = s.resetLow
      ∧ (applyCommit s).clear = s.clear ∧ (applyCommit s).port = s.port ∧ (applyCommit s).tb = s.tb
      ∧ (applyCommit s).line = s.line ∧ (applyCommit s).stations = s.stations
      ∧ (applyCommit s).lists = s.lists ∧ (applyCommit s).sched = s.sched
      ∧ (applyCommit s).reqs = s.reqs := by
  unfold applyCommit
  dsimp only
  (repeat' split) <;> simp

@[simp] theorem advanceFreshness_frame (s : State) : (advanceFreshness s).pending = s.pending
      ∧ (advanceFreshness s).freeCount = s.freeCount ∧ (advanceFreshness s).resetLow = s.resetLow
      ∧ (advanceFreshness s).clear = s.clear ∧ (advanceFreshness s).port = s.port
      ∧ (advanceFreshness s).tb = s.tb ∧ (advanceFreshness s).line = s.line
      ∧ (advanceFreshness s).stations = s.stations ∧ (advanceFreshness s).lists = s.lists
      ∧ (advanceFreshness s).sched = s.sched ∧ (advanceFreshness s).reqs = s.reqs := by
  unfold advanceFreshness
  dsimp only
  (repeat' split) <;> simp

@[simp] theorem outputStep_frame (s : State) : (outputStep s).pending = s.pending
      ∧ (outputStep s).freeCount = s.freeCount ∧ (outputStep s).resetLow = s.resetLow
      ∧ (outputStep s).clear = s.clear ∧ (outputStep s).port = s.port ∧ (outputStep s).tb = s.tb
      ∧ (outputStep s).line = s.line ∧ (outputStep s).stations = s.stations
      ∧ (outputStep s).lists = s.lists ∧ (outputStep s).sched = s.sched ∧ (outputStep s).reqs = s.reqs := by
  unfold outputStep
  (repeat' split) <;> simp

@[simp] theorem resetFirstToggle_frame (w : Work) (s : State) :
    (resetFirstToggle w s).pending = s.pending ∧ (resetFirstToggle w s).freeCount = s.freeCount
      ∧ (resetFirstToggle w s).resetLow = s.resetLow ∧ (resetFirstToggle w s).clear = s.clear
      ∧ (resetFirstToggle w s).port = s.port ∧ (resetFirstToggle w s).tb = s.tb
      ∧ (resetFirstToggle w s).line = s.line ∧ (resetFirstToggle w s).lists = s.lists
      ∧ (resetFirstToggle w s).sched = s.sched ∧ (resetFirstToggle w s).images = s.images
      ∧ (resetFirstToggle w s).reqs = s.reqs ∧ (resetFirstToggle w s).events = s.events := by
  unfold resetFirstToggle
  (repeat' split) <;> simp

@[simp] theorem beginTransmit_frame (p : Piece) (s : State) : (beginTransmit p s).pending = s.pending
      ∧ (beginTransmit p s).freeCount = s.freeCount ∧ (beginTransmit p s).resetLow = s.resetLow
      ∧ (beginTransmit p s).clear = s.clear ∧ (beginTransmit p s).port = s.port
      ∧ (beginTransmit p s).tb = s.tb ∧ (beginTransmit p s).lists = s.lists
      ∧ (beginTransmit p s).sched = s.sched ∧ (beginTransmit p s).images = s.images
      ∧ (beginTransmit p s).reqs = s.reqs ∧ (beginTransmit p s).events = s.events := by
  unfold beginTransmit
  dsimp only
  simp

@[simp] theorem handOver_frame (w : Work) (s : State) : (handOver w s).pending = s.pending
      ∧ (handOver w s).freeCount = s.freeCount ∧ (handOver w s).resetLow = s.resetLow
      ∧ (handOver w s).clear = s.clear ∧ (handOver w s).port = s.port ∧ (handOver w s).tb = s.tb
      ∧ (handOver w s).lists = s.lists ∧ (handOver w s).sched = s.sched
      ∧ (handOver w s).images = s.images ∧ (handOver w s).reqs = s.reqs
      ∧ (handOver w s).events = s.events := by
  unfold handOver
  (repeat' split) <;> simp

@[simp] theorem frameSent_frame (p : Piece) (s : State) : (frameSent p s).pending = s.pending
      ∧ (frameSent p s).freeCount = s.freeCount ∧ (frameSent p s).resetLow = s.resetLow
      ∧ (frameSent p s).clear = s.clear ∧ (frameSent p s).port = s.port ∧ (frameSent p s).tb = s.tb
      ∧ (frameSent p s).stations = s.stations ∧ (frameSent p s).lists = s.lists
      ∧ (frameSent p s).sched = s.sched ∧ (frameSent p s).images = s.images
      ∧ (frameSent p s).reqs = s.reqs ∧ (frameSent p s).events = s.events := by
  unfold frameSent
  dsimp only
  (repeat' split) <;> simp

@[simp] theorem windowExpires_frame (s : State) : (windowExpires s).pending = s.pending
      ∧ (windowExpires s).freeCount = s.freeCount ∧ (windowExpires s).resetLow = s.resetLow
      ∧ (windowExpires s).clear = s.clear ∧ (windowExpires s).port = s.port
      ∧ (windowExpires s).tb = s.tb ∧ (windowExpires s).stations = s.stations
      ∧ (windowExpires s).lists = s.lists ∧ (windowExpires s).sched = s.sched
      ∧ (windowExpires s).images = s.images ∧ (windowExpires s).reqs = s.reqs
      ∧ (windowExpires s).events = s.events := by
  unfold windowExpires
  simp

@[simp] theorem gapExpires_frame (s : State) : (gapExpires s).pending = s.pending
      ∧ (gapExpires s).freeCount = s.freeCount ∧ (gapExpires s).resetLow = s.resetLow
      ∧ (gapExpires s).clear = s.clear ∧ (gapExpires s).port = s.port ∧ (gapExpires s).tb = s.tb
      ∧ (gapExpires s).stations = s.stations ∧ (gapExpires s).lists = s.lists
      ∧ (gapExpires s).sched = s.sched ∧ (gapExpires s).images = s.images ∧ (gapExpires s).reqs = s.reqs
      ∧ (gapExpires s).events = s.events := by
  unfold gapExpires
  simp

@[simp] theorem completeReply_frame (b : List Byte) (s : State) :
    (completeReply b s).pending = s.pending ∧ (completeReply b s).freeCount = s.freeCount
      ∧ (completeReply b s).resetLow = s.resetLow ∧ (completeReply b s).clear = s.clear
      ∧ (completeReply b s).port = s.port ∧ (completeReply b s).tb = s.tb
      ∧ (completeReply b s).stations = s.stations ∧ (completeReply b s).lists = s.lists
      ∧ (completeReply b s).sched = s.sched ∧ (completeReply b s).images = s.images
      ∧ (completeReply b s).reqs = s.reqs ∧ (completeReply b s).events = s.events := by
  unfold completeReply
  (repeat' split) <;> simp

@[simp] theorem receiveCharacter_frame (c : LineChar) (s : State) :
    (receiveCharacter c s).pending = s.pending ∧ (receiveCharacter c s).freeCount = s.freeCount
      ∧ (receiveCharacter c s).resetLow = s.resetLow ∧ (receiveCharacter c s).clear = s.clear
      ∧ (receiveCharacter c s).port = s.port ∧ (receiveCharacter c s).tb = s.tb
      ∧ (receiveCharacter c s).stations = s.stations ∧ (receiveCharacter c s).lists = s.lists
      ∧ (receiveCharacter c s).sched = s.sched ∧ (receiveCharacter c s).images = s.images
      ∧ (receiveCharacter c s).reqs = s.reqs ∧ (receiveCharacter c s).events = s.events := by
  unfold receiveCharacter
  dsimp only
  (repeat' split) <;> simp

@[simp] theorem startAttempt_frame (r : Request) (s : State) : (startAttempt r s).pending = s.pending
      ∧ (startAttempt r s).freeCount = s.freeCount ∧ (startAttempt r s).resetLow = s.resetLow
      ∧ (startAttempt r s).clear = s.clear ∧ (startAttempt r s).port = s.port
      ∧ (startAttempt r s).tb = s.tb ∧ (startAttempt r s).lists = s.lists
      ∧ (startAttempt r s).images = s.images ∧ (startAttempt r s).events = s.events := by
  unfold startAttempt
  simp

@[simp] theorem admitHeads_frame (n : Nat) (s : State) : (admitHeads n s).pending = s.pending
      ∧ (admitHeads n s).freeCount = s.freeCount ∧ (admitHeads n s).resetLow = s.resetLow
      ∧ (admitHeads n s).clear = s.clear ∧ (admitHeads n s).port = s.port ∧ (admitHeads n s).tb = s.tb
      ∧ (admitHeads n s).lists = s.lists ∧ (admitHeads n s).images = s.images
      ∧ (admitHeads n s).events = s.events := by
  induction n generalizing s with
  | zero => simp [admitHeads]
  | succ n ih =>
    unfold admitHeads
    (repeat' split) <;> simp_all

@[simp] theorem admission_frame (s : State) : (admission s).pending = s.pending
      ∧ (admission s).freeCount = s.freeCount ∧ (admission s).resetLow = s.resetLow
      ∧ (admission s).clear = s.clear ∧ (admission s).port = s.port ∧ (admission s).tb = s.tb
      ∧ (admission s).lists = s.lists ∧ (admission s).images = s.images
      ∧ (admission s).events = s.events := by
  unfold admission
  simp

@[simp] theorem quietAdmission_frame (s : State) : (quietAdmission s).pending = s.pending
      ∧ (quietAdmission s).freeCount = s.freeCount ∧ (quietAdmission s).resetLow = s.resetLow
      ∧ (quietAdmission s).clear = s.clear ∧ (quietAdmission s).port = s.port
      ∧ (quietAdmission s).tb = s.tb ∧ (quietAdmission s).lists = s.lists
      ∧ (quietAdmission s).images = s.images ∧ (quietAdmission s).events = s.events := by
  unfold quietAdmission
  (repeat' split) <;> simp

@[simp] theorem applyAttemptGood_frame (r : Request) (n : Byte) (f : BitVec 4) (b : List Byte) (t : Time) (s : State) :
    (applyAttemptGood r n f b t s).pending = s.pending
      ∧ (applyAttemptGood r n f b t s).freeCount = s.freeCount
      ∧ (applyAttemptGood r n f b t s).resetLow = s.resetLow
      ∧ (applyAttemptGood r n f b t s).clear = s.clear ∧ (applyAttemptGood r n f b t s).port = s.port
      ∧ (applyAttemptGood r n f b t s).tb = s.tb ∧ (applyAttemptGood r n f b t s).line = s.line
      ∧ (applyAttemptGood r n f b t s).lists = s.lists ∧ (applyAttemptGood r n f b t s).sched = s.sched
      ∧ (applyAttemptGood r n f b t s).images = s.images
      ∧ (applyAttemptGood r n f b t s).events = s.events := by
  unfold applyAttemptGood
  (repeat' split) <;> simp

@[simp] theorem applyAttemptFailure_frame (r : Request) (t : Time) (s : State) :
    (applyAttemptFailure r t s).pending = s.pending
      ∧ (applyAttemptFailure r t s).freeCount = s.freeCount
      ∧ (applyAttemptFailure r t s).resetLow = s.resetLow ∧ (applyAttemptFailure r t s).clear = s.clear
      ∧ (applyAttemptFailure r t s).port = s.port ∧ (applyAttemptFailure r t s).tb = s.tb
      ∧ (applyAttemptFailure r t s).line = s.line ∧ (applyAttemptFailure r t s).stations = s.stations
      ∧ (applyAttemptFailure r t s).lists = s.lists ∧ (applyAttemptFailure r t s).sched = s.sched
      ∧ (applyAttemptFailure r t s).images = s.images ∧ (applyAttemptFailure r t s).events = s.events := by
  unfold applyAttemptFailure
  (repeat' split) <;> simp

@[simp] theorem applyAttempt_frame (r : Report) (s : State) : (applyAttempt r s).pending = s.pending
      ∧ (applyAttempt r s).freeCount = s.freeCount ∧ (applyAttempt r s).resetLow = s.resetLow
      ∧ (applyAttempt r s).clear = s.clear ∧ (applyAttempt r s).port = s.port
      ∧ (applyAttempt r s).tb = s.tb ∧ (applyAttempt r s).line = s.line
      ∧ (applyAttempt r s).lists = s.lists ∧ (applyAttempt r s).sched = s.sched
      ∧ (applyAttempt r s).images = s.images ∧ (applyAttempt r s).events = s.events := by
  unfold applyAttempt
  (repeat' split) <;> simp

@[simp] theorem failInFlight_frame (s : State) : (failInFlight s).pending = s.pending
      ∧ (failInFlight s).freeCount = s.freeCount ∧ (failInFlight s).resetLow = s.resetLow
      ∧ (failInFlight s).clear = s.clear ∧ (failInFlight s).port = s.port ∧ (failInFlight s).tb = s.tb
      ∧ (failInFlight s).line = s.line ∧ (failInFlight s).stations = s.stations
      ∧ (failInFlight s).lists = s.lists ∧ (failInFlight s).sched = s.sched
      ∧ (failInFlight s).images = s.images ∧ (failInFlight s).events = s.events := by
  unfold failInFlight
  (repeat' split) <;> simp

@[simp] theorem cancelInFlight_frame (r : Request) (s : State) :
    (cancelInFlight r s).pending = s.pending ∧ (cancelInFlight r s).freeCount = s.freeCount
      ∧ (cancelInFlight r s).resetLow = s.resetLow ∧ (cancelInFlight r s).clear = s.clear
      ∧ (cancelInFlight r s).port = s.port ∧ (cancelInFlight r s).tb = s.tb
      ∧ (cancelInFlight r s).line = s.line ∧ (cancelInFlight r s).stations = s.stations
      ∧ (cancelInFlight r s).lists = s.lists ∧ (cancelInFlight r s).sched = s.sched
      ∧ (cancelInFlight r s).images = s.images ∧ (cancelInFlight r s).events = s.events := by
  unfold cancelInFlight
  (repeat' split) <;> simp

@[simp] theorem markDisabled_frame (i : Slot) (s : State) : (markDisabled i s).pending = s.pending
      ∧ (markDisabled i s).freeCount = s.freeCount ∧ (markDisabled i s).resetLow = s.resetLow
      ∧ (markDisabled i s).clear = s.clear ∧ (markDisabled i s).port = s.port
      ∧ (markDisabled i s).tb = s.tb ∧ (markDisabled i s).line = s.line
      ∧ (markDisabled i s).stations = s.stations ∧ (markDisabled i s).lists = s.lists
      ∧ (markDisabled i s).sched = s.sched ∧ (markDisabled i s).images = s.images
      ∧ (markDisabled i s).events = s.events := by
  unfold markDisabled
  (repeat' split) <;> simp

@[simp] theorem lineFault_frame (c : FaultCause) (s : State) : (lineFault c s).pending = s.pending
      ∧ (lineFault c s).freeCount = s.freeCount ∧ (lineFault c s).resetLow = s.resetLow
      ∧ (lineFault c s).clear = s.clear ∧ (lineFault c s).port = s.port
      ∧ (lineFault c s).stations = s.stations ∧ (lineFault c s).lists = s.lists
      ∧ (lineFault c s).images = s.images := by
  unfold lineFault
  dsimp only
  simp

@[simp] theorem drainEnd_frame (s : State) : (drainEnd s).pending = s.pending
      ∧ (drainEnd s).freeCount = s.freeCount ∧ (drainEnd s).resetLow = s.resetLow
      ∧ (drainEnd s).clear = s.clear ∧ (drainEnd s).port = s.port ∧ (drainEnd s).stations = s.stations
      ∧ (drainEnd s).lists = s.lists ∧ (drainEnd s).images = s.images ∧ (drainEnd s).reqs = s.reqs
      ∧ (drainEnd s).events = s.events := by
  unfold drainEnd
  simp

@[simp] theorem setCycleNumber_frame (s : State) : (setCycleNumber s).pending = s.pending
      ∧ (setCycleNumber s).freeCount = s.freeCount ∧ (setCycleNumber s).resetLow = s.resetLow
      ∧ (setCycleNumber s).clear = s.clear ∧ (setCycleNumber s).port = s.port
      ∧ (setCycleNumber s).tb = s.tb ∧ (setCycleNumber s).line = s.line
      ∧ (setCycleNumber s).stations = s.stations ∧ (setCycleNumber s).lists = s.lists
      ∧ (setCycleNumber s).images = s.images ∧ (setCycleNumber s).reqs = s.reqs
      ∧ (setCycleNumber s).events = s.events := by
  unfold setCycleNumber
  (repeat' split) <;> simp

@[simp] theorem postLate_frame (l : Option Word) (s : State) : (postLate l s).pending = s.pending
      ∧ (postLate l s).freeCount = s.freeCount ∧ (postLate l s).resetLow = s.resetLow
      ∧ (postLate l s).clear = s.clear ∧ (postLate l s).port = s.port ∧ (postLate l s).tb = s.tb
      ∧ (postLate l s).line = s.line ∧ (postLate l s).stations = s.stations
      ∧ (postLate l s).lists = s.lists ∧ (postLate l s).sched = s.sched
      ∧ (postLate l s).images = s.images ∧ (postLate l s).reqs = s.reqs := by
  unfold postLate
  (repeat' split) <;> simp

@[simp] theorem applySwitch_frame (s : State) : (applySwitch s).pending = s.pending
      ∧ (applySwitch s).freeCount = s.freeCount ∧ (applySwitch s).resetLow = s.resetLow
      ∧ (applySwitch s).clear = s.clear ∧ (applySwitch s).port = s.port ∧ (applySwitch s).tb = s.tb
      ∧ (applySwitch s).line = s.line ∧ (applySwitch s).stations = s.stations
      ∧ (applySwitch s).sched = s.sched ∧ (applySwitch s).images = s.images
      ∧ (applySwitch s).reqs = s.reqs := by
  unfold applySwitch
  (repeat' split) <;> simp

@[simp] theorem stepProbes_frame (s : State) : (stepProbes s).pending = s.pending
      ∧ (stepProbes s).freeCount = s.freeCount ∧ (stepProbes s).resetLow = s.resetLow
      ∧ (stepProbes s).clear = s.clear ∧ (stepProbes s).port = s.port ∧ (stepProbes s).tb = s.tb
      ∧ (stepProbes s).line = s.line ∧ (stepProbes s).lists = s.lists ∧ (stepProbes s).sched = s.sched
      ∧ (stepProbes s).images = s.images ∧ (stepProbes s).reqs = s.reqs
      ∧ (stepProbes s).events = s.events := by
  unfold stepProbes
  simp

@[simp] theorem sendSync_frame (s : State) : (sendSync s).pending = s.pending
      ∧ (sendSync s).freeCount = s.freeCount ∧ (sendSync s).resetLow = s.resetLow
      ∧ (sendSync s).clear = s.clear ∧ (sendSync s).port = s.port ∧ (sendSync s).lists = s.lists
      ∧ (sendSync s).images = s.images ∧ (sendSync s).reqs = s.reqs := by
  unfold sendSync
  simp

@[simp] theorem takeStart_frame (t : Time) (l : Option Word) (s : State) :
    (takeStart t l s).pending = s.pending ∧ (takeStart t l s).freeCount = s.freeCount
      ∧ (takeStart t l s).resetLow = s.resetLow ∧ (takeStart t l s).clear = s.clear
      ∧ (takeStart t l s).port = s.port ∧ (takeStart t l s).reqs = s.reqs := by
  unfold takeStart
  simp

@[simp] theorem takeHeld_frame (t : Time) (s : State) : (takeHeld t s).pending = s.pending
      ∧ (takeHeld t s).freeCount = s.freeCount ∧ (takeHeld t s).resetLow = s.resetLow
      ∧ (takeHeld t s).clear = s.clear ∧ (takeHeld t s).port = s.port ∧ (takeHeld t s).reqs = s.reqs := by
  unfold takeHeld
  simp

@[simp] theorem refuseStart_frame (s : State) : (refuseStart s).pending = s.pending
      ∧ (refuseStart s).freeCount = s.freeCount ∧ (refuseStart s).resetLow = s.resetLow
      ∧ (refuseStart s).clear = s.clear ∧ (refuseStart s).port = s.port ∧ (refuseStart s).tb = s.tb
      ∧ (refuseStart s).line = s.line ∧ (refuseStart s).stations = s.stations
      ∧ (refuseStart s).lists = s.lists ∧ (refuseStart s).sched = s.sched
      ∧ (refuseStart s).images = s.images ∧ (refuseStart s).reqs = s.reqs := by
  unfold refuseStart
  simp

@[simp] theorem answerAcyclic_frame (t : Time) (s : State) : (answerAcyclic t s).pending = s.pending
      ∧ (answerAcyclic t s).freeCount = s.freeCount ∧ (answerAcyclic t s).resetLow = s.resetLow
      ∧ (answerAcyclic t s).clear = s.clear ∧ (answerAcyclic t s).port = s.port
      ∧ (answerAcyclic t s).reqs = s.reqs := by
  unfold answerAcyclic
  (repeat' split) <;> simp

@[simp] theorem answerStart_frame (t : Time) (s : State) : (answerStart t s).pending = s.pending
      ∧ (answerStart t s).freeCount = s.freeCount ∧ (answerStart t s).resetLow = s.resetLow
      ∧ (answerStart t s).clear = s.clear ∧ (answerStart t s).port = s.port
      ∧ (answerStart t s).reqs = s.reqs := by
  unfold answerStart
  (repeat' split) <;> simp

@[simp] theorem callEntry_frame (i : Slot) (n : Nat) (s : State) : (callEntry i n s).pending = s.pending
      ∧ (callEntry i n s).freeCount = s.freeCount ∧ (callEntry i n s).resetLow = s.resetLow
      ∧ (callEntry i n s).clear = s.clear ∧ (callEntry i n s).port = s.port
      ∧ (callEntry i n s).tb = s.tb ∧ (callEntry i n s).lists = s.lists
      ∧ (callEntry i n s).images = s.images ∧ (callEntry i n s).reqs = s.reqs
      ∧ (callEntry i n s).events = s.events := by
  unfold callEntry
  simp

@[simp] theorem endWalk_frame (s : State) : (endWalk s).pending = s.pending
      ∧ (endWalk s).freeCount = s.freeCount ∧ (endWalk s).resetLow = s.resetLow
      ∧ (endWalk s).clear = s.clear ∧ (endWalk s).port = s.port ∧ (endWalk s).tb = s.tb
      ∧ (endWalk s).lists = s.lists := by
  unfold endWalk
  dsimp only
  simp

@[simp] theorem walk_frame (l : List ListEntry) (n : Nat) (s : State) : (walk l n s).pending = s.pending
      ∧ (walk l n s).freeCount = s.freeCount ∧ (walk l n s).resetLow = s.resetLow
      ∧ (walk l n s).clear = s.clear ∧ (walk l n s).port = s.port ∧ (walk l n s).tb = s.tb
      ∧ (walk l n s).lists = s.lists := by
  induction l generalizing n s with
  | nil => simp [walk]
  | cons e es ih =>
    unfold walk
    (repeat' split) <;> simp_all

@[simp] theorem walkFrom_frame (n : Nat) (s : State) : (walkFrom n s).pending = s.pending
      ∧ (walkFrom n s).freeCount = s.freeCount ∧ (walkFrom n s).resetLow = s.resetLow
      ∧ (walkFrom n s).clear = s.clear ∧ (walkFrom n s).port = s.port ∧ (walkFrom n s).tb = s.tb
      ∧ (walkFrom n s).lists = s.lists := by
  unfold walkFrom
  simp

@[simp] theorem applyExchange_frame (i : Slot) (r : Report) (s : State) :
    (applyExchange i r s).pending = s.pending ∧ (applyExchange i r s).freeCount = s.freeCount
      ∧ (applyExchange i r s).resetLow = s.resetLow ∧ (applyExchange i r s).clear = s.clear
      ∧ (applyExchange i r s).port = s.port ∧ (applyExchange i r s).tb = s.tb
      ∧ (applyExchange i r s).line = s.line ∧ (applyExchange i r s).lists = s.lists
      ∧ (applyExchange i r s).sched = s.sched ∧ (applyExchange i r s).reqs = s.reqs := by
  unfold applyExchange
  (repeat' split) <;> simp

@[simp] theorem applySyncReport_frame (r : Report) (s : State) :
    (applySyncReport r s).pending = s.pending ∧ (applySyncReport r s).freeCount = s.freeCount
      ∧ (applySyncReport r s).resetLow = s.resetLow ∧ (applySyncReport r s).clear = s.clear
      ∧ (applySyncReport r s).port = s.port ∧ (applySyncReport r s).tb = s.tb
      ∧ (applySyncReport r s).line = s.line ∧ (applySyncReport r s).stations = s.stations
      ∧ (applySyncReport r s).lists = s.lists ∧ (applySyncReport r s).sched = s.sched
      ∧ (applySyncReport r s).reqs = s.reqs ∧ (applySyncReport r s).events = s.events := by
  unfold applySyncReport
  (repeat' split) <;> simp

@[simp] theorem applyReport_frame (p : Piece) (r : Report) (s : State) :
    (applyReport p r s).pending = s.pending ∧ (applyReport p r s).freeCount = s.freeCount
      ∧ (applyReport p r s).resetLow = s.resetLow ∧ (applyReport p r s).clear = s.clear
      ∧ (applyReport p r s).port = s.port ∧ (applyReport p r s).tb = s.tb
      ∧ (applyReport p r s).line = s.line ∧ (applyReport p r s).lists = s.lists
      ∧ (applyReport p r s).sched = s.sched := by
  unfold applyReport
  (repeat' split) <;> simp

@[simp] theorem afterAttempt_frame (s : State) : (afterAttempt s).pending = s.pending
      ∧ (afterAttempt s).freeCount = s.freeCount ∧ (afterAttempt s).resetLow = s.resetLow
      ∧ (afterAttempt s).clear = s.clear ∧ (afterAttempt s).port = s.port := by
  unfold afterAttempt
  (repeat' split) <;> simp

@[simp] theorem proceed_frame (w : Work) (s : State) : (proceed w s).pending = s.pending
      ∧ (proceed w s).freeCount = s.freeCount ∧ (proceed w s).resetLow = s.resetLow
      ∧ (proceed w s).clear = s.clear ∧ (proceed w s).port = s.port := by
  unfold proceed
  (repeat' split) <;> simp

@[simp] theorem reportPiece_frame (p : Piece) (r : Report) (s : State) :
    (reportPiece p r s).pending = s.pending ∧ (reportPiece p r s).freeCount = s.freeCount
      ∧ (reportPiece p r s).resetLow = s.resetLow ∧ (reportPiece p r s).clear = s.clear
      ∧ (reportPiece p r s).port = s.port := by
  unfold reportPiece
  dsimp only
  (repeat' split) <;> simp

@[simp] theorem deliverStart_frame (t n : Time) (s : State) : (deliverStart t n s).pending = s.pending
      ∧ (deliverStart t n s).freeCount = s.freeCount ∧ (deliverStart t n s).resetLow = s.resetLow
      ∧ (deliverStart t n s).clear = s.clear ∧ (deliverStart t n s).port = s.port
      ∧ (deliverStart t n s).reqs = s.reqs := by
  unfold deliverStart
  simp

@[simp] theorem armTimeBase_frame (s : State) : (armTimeBase s).pending = s.pending
      ∧ (armTimeBase s).freeCount = s.freeCount ∧ (armTimeBase s).resetLow = s.resetLow
      ∧ (armTimeBase s).clear = s.clear ∧ (armTimeBase s).port = s.port ∧ (armTimeBase s).line = s.line
      ∧ (armTimeBase s).stations = s.stations ∧ (armTimeBase s).lists = s.lists
      ∧ (armTimeBase s).sched = s.sched ∧ (armTimeBase s).images = s.images
      ∧ (armTimeBase s).reqs = s.reqs ∧ (armTimeBase s).events = s.events := by
  unfold armTimeBase
  (repeat' split) <;> simp

@[simp] theorem acceptEdge_frame (s : State) : (acceptEdge s).pending = s.pending
      ∧ (acceptEdge s).freeCount = s.freeCount ∧ (acceptEdge s).resetLow = s.resetLow
      ∧ (acceptEdge s).clear = s.clear ∧ (acceptEdge s).port = s.port ∧ (acceptEdge s).reqs = s.reqs := by
  unfold acceptEdge
  simp

@[simp] theorem examineEdge_frame (s : State) : (examineEdge s).pending = s.pending
      ∧ (examineEdge s).freeCount = s.freeCount ∧ (examineEdge s).resetLow = s.resetLow
      ∧ (examineEdge s).clear = s.clear ∧ (examineEdge s).port = s.port ∧ (examineEdge s).reqs = s.reqs := by
  unfold examineEdge
  (repeat' split) <;> simp

@[simp] theorem trackEdge_frame (s : State) : (trackEdge s).pending = s.pending
      ∧ (trackEdge s).freeCount = s.freeCount ∧ (trackEdge s).resetLow = s.resetLow
      ∧ (trackEdge s).clear = s.clear ∧ (trackEdge s).port = s.port ∧ (trackEdge s).reqs = s.reqs := by
  unfold trackEdge
  (repeat' split) <;> simp

@[simp] theorem countMiss_frame (s : State) : (countMiss s).pending = s.pending
      ∧ (countMiss s).freeCount = s.freeCount ∧ (countMiss s).resetLow = s.resetLow
      ∧ (countMiss s).clear = s.clear ∧ (countMiss s).port = s.port ∧ (countMiss s).line = s.line
      ∧ (countMiss s).stations = s.stations ∧ (countMiss s).lists = s.lists
      ∧ (countMiss s).sched = s.sched ∧ (countMiss s).images = s.images ∧ (countMiss s).reqs = s.reqs := by
  unfold countMiss
  (repeat' split) <;> simp

@[simp] theorem generateStart_frame (s : State) : (generateStart s).pending = s.pending
      ∧ (generateStart s).freeCount = s.freeCount ∧ (generateStart s).resetLow = s.resetLow
      ∧ (generateStart s).clear = s.clear ∧ (generateStart s).port = s.port
      ∧ (generateStart s).reqs = s.reqs := by
  unfold generateStart
  (repeat' split) <;> simp

@[simp] theorem cycleTimerExpires_frame (s : State) : (cycleTimerExpires s).pending = s.pending
      ∧ (cycleTimerExpires s).freeCount = s.freeCount ∧ (cycleTimerExpires s).resetLow = s.resetLow
      ∧ (cycleTimerExpires s).clear = s.clear ∧ (cycleTimerExpires s).port = s.port
      ∧ (cycleTimerExpires s).reqs = s.reqs := by
  unfold cycleTimerExpires
  (repeat' split) <;> simp

@[simp] theorem collide_frame (s : State) : (collide s).pending = s.pending
      ∧ (collide s).freeCount = s.freeCount ∧ (collide s).resetLow = s.resetLow
      ∧ (collide s).clear = s.clear ∧ (collide s).port = s.port ∧ (collide s).stations = s.stations
      ∧ (collide s).lists = s.lists ∧ (collide s).images = s.images := by
  unfold collide
  dsimp only
  (repeat' split) <;> simp

@[simp] theorem characterSent_frame (p : Piece) (s : State) : (characterSent p s).pending = s.pending
      ∧ (characterSent p s).freeCount = s.freeCount ∧ (characterSent p s).resetLow = s.resetLow
      ∧ (characterSent p s).clear = s.clear ∧ (characterSent p s).port = s.port
      ∧ (characterSent p s).tb = s.tb ∧ (characterSent p s).stations = s.stations
      ∧ (characterSent p s).lists = s.lists ∧ (characterSent p s).sched = s.sched
      ∧ (characterSent p s).images = s.images ∧ (characterSent p s).reqs = s.reqs
      ∧ (characterSent p s).events = s.events := by
  unfold characterSent
  (repeat' split) <;> simp

@[simp] theorem settleEnds_frame (s : State) : (settleEnds s).pending = s.pending
      ∧ (settleEnds s).freeCount = s.freeCount ∧ (settleEnds s).resetLow = s.resetLow
      ∧ (settleEnds s).clear = s.clear ∧ (settleEnds s).port = s.port ∧ (settleEnds s).tb = s.tb
      ∧ (settleEnds s).stations = s.stations ∧ (settleEnds s).lists = s.lists
      ∧ (settleEnds s).sched = s.sched ∧ (settleEnds s).images = s.images ∧ (settleEnds s).reqs = s.reqs
      ∧ (settleEnds s).events = s.events := by
  unfold settleEnds
  simp

@[simp] theorem expireOverdue_frame (s : State) : (expireOverdue s).pending = s.pending
      ∧ (expireOverdue s).freeCount = s.freeCount ∧ (expireOverdue s).resetLow = s.resetLow
      ∧ (expireOverdue s).clear = s.clear ∧ (expireOverdue s).port = s.port
      ∧ (expireOverdue s).tb = s.tb ∧ (expireOverdue s).stations = s.stations
      ∧ (expireOverdue s).lists = s.lists ∧ (expireOverdue s).sched = s.sched
      ∧ (expireOverdue s).images = s.images ∧ (expireOverdue s).reqs = s.reqs
      ∧ (expireOverdue s).events = s.events := by
  unfold expireOverdue
  (repeat' split) <;> simp

@[simp] theorem takeArrival_frame (s : State) : (takeArrival s).pending = s.pending
      ∧ (takeArrival s).freeCount = s.freeCount ∧ (takeArrival s).resetLow = s.resetLow
      ∧ (takeArrival s).clear = s.clear ∧ (takeArrival s).port = s.port ∧ (takeArrival s).tb = s.tb
      ∧ (takeArrival s).stations = s.stations ∧ (takeArrival s).lists = s.lists
      ∧ (takeArrival s).sched = s.sched ∧ (takeArrival s).images = s.images
      ∧ (takeArrival s).reqs = s.reqs ∧ (takeArrival s).events = s.events := by
  unfold takeArrival
  dsimp only
  (repeat' split) <;> simp

@[simp] theorem discardArrival_frame (c : RxChar) (s : State) : (discardArrival c s).pending = s.pending
      ∧ (discardArrival c s).freeCount = s.freeCount ∧ (discardArrival c s).resetLow = s.resetLow
      ∧ (discardArrival c s).clear = s.clear ∧ (discardArrival c s).port = s.port
      ∧ (discardArrival c s).tb = s.tb ∧ (discardArrival c s).stations = s.stations
      ∧ (discardArrival c s).lists = s.lists ∧ (discardArrival c s).sched = s.sched
      ∧ (discardArrival c s).images = s.images ∧ (discardArrival c s).reqs = s.reqs
      ∧ (discardArrival c s).events = s.events := by
  unfold discardArrival
  (repeat' split) <;> simp

@[simp] theorem characterEnds_frame (r : RxChar) (c : LineChar) (s : State) :
    (characterEnds r c s).pending = s.pending ∧ (characterEnds r c s).freeCount = s.freeCount
      ∧ (characterEnds r c s).resetLow = s.resetLow ∧ (characterEnds r c s).clear = s.clear
      ∧ (characterEnds r c s).port = s.port ∧ (characterEnds r c s).tb = s.tb
      ∧ (characterEnds r c s).stations = s.stations ∧ (characterEnds r c s).lists = s.lists
      ∧ (characterEnds r c s).sched = s.sched ∧ (characterEnds r c s).images = s.images
      ∧ (characterEnds r c s).reqs = s.reqs ∧ (characterEnds r c s).events = s.events := by
  unfold characterEnds
  (repeat' split) <;> simp

@[simp] theorem startRun_frame (s : State) : (startRun s).pending = s.pending
      ∧ (startRun s).freeCount = s.freeCount ∧ (startRun s).resetLow = s.resetLow
      ∧ (startRun s).clear = s.clear ∧ (startRun s).port = s.port ∧ (startRun s).images = s.images := by
  unfold startRun
  dsimp only
  simp

@[simp] theorem stopRun_frame (s : State) : (stopRun s).pending = s.pending
      ∧ (stopRun s).freeCount = s.freeCount ∧ (stopRun s).resetLow = s.resetLow
      ∧ (stopRun s).clear = s.clear ∧ (stopRun s).port = s.port ∧ (stopRun s).stations = s.stations
      ∧ (stopRun s).lists = s.lists ∧ (stopRun s).images = s.images ∧ (stopRun s).reqs = s.reqs
      ∧ (stopRun s).events = s.events := by
  unfold stopRun
  dsimp only
  (repeat' split) <;> simp

@[simp] theorem softResetRun_frame (s : State) : (softResetRun s).pending = s.pending
      ∧ (softResetRun s).freeCount = s.freeCount ∧ (softResetRun s).resetLow = s.resetLow
      ∧ (softResetRun s).port = s.port := by
  unfold softResetRun
  dsimp only
  simp

@[simp] theorem disableRun_frame (i : Slot) (s : State) : (disableRun i s).pending = s.pending
      ∧ (disableRun i s).freeCount = s.freeCount ∧ (disableRun i s).resetLow = s.resetLow
      ∧ (disableRun i s).clear = s.clear ∧ (disableRun i s).port = s.port ∧ (disableRun i s).tb = s.tb
      ∧ (disableRun i s).lists = s.lists ∧ (disableRun i s).sched = s.sched
      ∧ (disableRun i s).images = s.images ∧ (disableRun i s).events = s.events := by
  unfold disableRun
  dsimp only
  simp

@[simp] theorem withdrawQueued_frame (r : Request) (l : List Request) (s : State) :
    (withdrawQueued r l s).pending = s.pending ∧ (withdrawQueued r l s).freeCount = s.freeCount
      ∧ (withdrawQueued r l s).resetLow = s.resetLow ∧ (withdrawQueued r l s).clear = s.clear
      ∧ (withdrawQueued r l s).port = s.port ∧ (withdrawQueued r l s).tb = s.tb
      ∧ (withdrawQueued r l s).line = s.line ∧ (withdrawQueued r l s).stations = s.stations
      ∧ (withdrawQueued r l s).lists = s.lists ∧ (withdrawQueued r l s).sched = s.sched
      ∧ (withdrawQueued r l s).images = s.images ∧ (withdrawQueued r l s).events = s.events := by
  unfold withdrawQueued
  simp

@[simp] theorem clearEnds_frame (s : State) : (clearEnds s).pending = s.pending
      ∧ (clearEnds s).freeCount = s.freeCount ∧ (clearEnds s).resetLow = s.resetLow
      ∧ (clearEnds s).port = s.port ∧ (clearEnds s).tb = s.tb ∧ (clearEnds s).line = s.line
      ∧ (clearEnds s).stations = s.stations ∧ (clearEnds s).lists = s.lists
      ∧ (clearEnds s).events = s.events := by
  unfold clearEnds
  simp

@[simp] theorem clearLatched_frame (m : BitVec 7) (s : State) : (clearLatched m s).pending = s.pending
      ∧ (clearLatched m s).freeCount = s.freeCount ∧ (clearLatched m s).resetLow = s.resetLow
      ∧ (clearLatched m s).clear = s.clear ∧ (clearLatched m s).port = s.port
      ∧ (clearLatched m s).tb = s.tb ∧ (clearLatched m s).line = s.line
      ∧ (clearLatched m s).stations = s.stations ∧ (clearLatched m s).lists = s.lists
      ∧ (clearLatched m s).sched = s.sched ∧ (clearLatched m s).images = s.images
      ∧ (clearLatched m s).reqs = s.reqs := by
  unfold clearLatched
  simp

@[simp] theorem setShadowEntry_frame (e : ListEntry) (s : State) :
    (setShadowEntry e s).pending = s.pending ∧ (setShadowEntry e s).freeCount = s.freeCount
      ∧ (setShadowEntry e s).resetLow = s.resetLow ∧ (setShadowEntry e s).clear = s.clear
      ∧ (setShadowEntry e s).port = s.port ∧ (setShadowEntry e s).tb = s.tb
      ∧ (setShadowEntry e s).line = s.line ∧ (setShadowEntry e s).stations = s.stations
      ∧ (setShadowEntry e s).sched = s.sched ∧ (setShadowEntry e s).images = s.images
      ∧ (setShadowEntry e s).reqs = s.reqs ∧ (setShadowEntry e s).events = s.events := by
  unfold setShadowEntry
  dsimp only
  simp

@[simp] theorem storeSyncMode_frame (p : Bool × Bool) (s : State) :
    (storeSyncMode p s).pending = s.pending ∧ (storeSyncMode p s).freeCount = s.freeCount
      ∧ (storeSyncMode p s).resetLow = s.resetLow ∧ (storeSyncMode p s).clear = s.clear
      ∧ (storeSyncMode p s).port = s.port ∧ (storeSyncMode p s).line = s.line
      ∧ (storeSyncMode p s).stations = s.stations ∧ (storeSyncMode p s).lists = s.lists
      ∧ (storeSyncMode p s).sched = s.sched ∧ (storeSyncMode p s).images = s.images
      ∧ (storeSyncMode p s).reqs = s.reqs ∧ (storeSyncMode p s).events = s.events := by
  unfold storeSyncMode
  simp

@[simp] theorem writeIntStatus_frame (w : Word) (s : State) : (writeIntStatus w s).pending = s.pending
      ∧ (writeIntStatus w s).freeCount = s.freeCount ∧ (writeIntStatus w s).resetLow = s.resetLow
      ∧ (writeIntStatus w s).clear = s.clear ∧ (writeIntStatus w s).port = s.port
      ∧ (writeIntStatus w s).tb = s.tb ∧ (writeIntStatus w s).line = s.line
      ∧ (writeIntStatus w s).stations = s.stations ∧ (writeIntStatus w s).lists = s.lists
      ∧ (writeIntStatus w s).sched = s.sched ∧ (writeIntStatus w s).images = s.images
      ∧ (writeIntStatus w s).reqs = s.reqs := by
  unfold writeIntStatus takeWord
  (repeat' split) <;> simp

@[simp] theorem writeIntEnable_frame (w : Word) (s : State) : (writeIntEnable w s).pending = s.pending
      ∧ (writeIntEnable w s).freeCount = s.freeCount ∧ (writeIntEnable w s).resetLow = s.resetLow
      ∧ (writeIntEnable w s).clear = s.clear ∧ (writeIntEnable w s).port = s.port
      ∧ (writeIntEnable w s).tb = s.tb ∧ (writeIntEnable w s).line = s.line
      ∧ (writeIntEnable w s).stations = s.stations ∧ (writeIntEnable w s).lists = s.lists
      ∧ (writeIntEnable w s).sched = s.sched ∧ (writeIntEnable w s).images = s.images
      ∧ (writeIntEnable w s).reqs = s.reqs := by
  unfold writeIntEnable takeWord
  (repeat' split) <;> simp

@[simp] theorem writeStnSel_frame (w : Word) (s : State) : (writeStnSel w s).pending = s.pending
      ∧ (writeStnSel w s).freeCount = s.freeCount ∧ (writeStnSel w s).resetLow = s.resetLow
      ∧ (writeStnSel w s).clear = s.clear ∧ (writeStnSel w s).tb = s.tb
      ∧ (writeStnSel w s).line = s.line ∧ (writeStnSel w s).stations = s.stations
      ∧ (writeStnSel w s).lists = s.lists ∧ (writeStnSel w s).sched = s.sched
      ∧ (writeStnSel w s).images = s.images ∧ (writeStnSel w s).reqs = s.reqs := by
  unfold writeStnSel takeWord
  (repeat' split) <;> simp

@[simp] theorem writeStationConfig_frame (r : StationReg) (w : Word) (s : State) :
    (writeStationConfig r w s).pending = s.pending ∧ (writeStationConfig r w s).freeCount = s.freeCount
      ∧ (writeStationConfig r w s).resetLow = s.resetLow ∧ (writeStationConfig r w s).clear = s.clear
      ∧ (writeStationConfig r w s).port = s.port ∧ (writeStationConfig r w s).tb = s.tb
      ∧ (writeStationConfig r w s).line = s.line ∧ (writeStationConfig r w s).lists = s.lists
      ∧ (writeStationConfig r w s).sched = s.sched ∧ (writeStationConfig r w s).images = s.images
      ∧ (writeStationConfig r w s).reqs = s.reqs := by
  unfold writeStationConfig takeWord
  dsimp only
  (repeat' split) <;> simp

@[simp] theorem writeListSel_frame (w : Word) (s : State) : (writeListSel w s).pending = s.pending
      ∧ (writeListSel w s).freeCount = s.freeCount ∧ (writeListSel w s).resetLow = s.resetLow
      ∧ (writeListSel w s).clear = s.clear ∧ (writeListSel w s).tb = s.tb
      ∧ (writeListSel w s).line = s.line ∧ (writeListSel w s).stations = s.stations
      ∧ (writeListSel w s).lists = s.lists ∧ (writeListSel w s).sched = s.sched
      ∧ (writeListSel w s).images = s.images ∧ (writeListSel w s).reqs = s.reqs := by
  unfold writeListSel takeWord
  (repeat' split) <;> simp

@[simp] theorem writeListEntry_frame (w : Word) (s : State) : (writeListEntry w s).pending = s.pending
      ∧ (writeListEntry w s).freeCount = s.freeCount ∧ (writeListEntry w s).resetLow = s.resetLow
      ∧ (writeListEntry w s).clear = s.clear ∧ (writeListEntry w s).port = s.port
      ∧ (writeListEntry w s).tb = s.tb ∧ (writeListEntry w s).line = s.line
      ∧ (writeListEntry w s).stations = s.stations ∧ (writeListEntry w s).sched = s.sched
      ∧ (writeListEntry w s).images = s.images ∧ (writeListEntry w s).reqs = s.reqs := by
  unfold writeListEntry takeWord
  (repeat' split) <;> simp

@[simp] theorem writeListLen_frame (w : Word) (s : State) : (writeListLen w s).pending = s.pending
      ∧ (writeListLen w s).freeCount = s.freeCount ∧ (writeListLen w s).resetLow = s.resetLow
      ∧ (writeListLen w s).clear = s.clear ∧ (writeListLen w s).port = s.port
      ∧ (writeListLen w s).tb = s.tb ∧ (writeListLen w s).line = s.line
      ∧ (writeListLen w s).stations = s.stations ∧ (writeListLen w s).sched = s.sched
      ∧ (writeListLen w s).images = s.images ∧ (writeListLen w s).reqs = s.reqs := by
  unfold writeListLen takeWord
  (repeat' split) <;> simp

@[simp] theorem writeComposer_frame (r : ComposerReg) (w : Word) (s : State) :
    (writeComposer r w s).pending = s.pending ∧ (writeComposer r w s).freeCount = s.freeCount
      ∧ (writeComposer r w s).resetLow = s.resetLow ∧ (writeComposer r w s).clear = s.clear
      ∧ (writeComposer r w s).port = s.port ∧ (writeComposer r w s).tb = s.tb
      ∧ (writeComposer r w s).line = s.line ∧ (writeComposer r w s).stations = s.stations
      ∧ (writeComposer r w s).lists = s.lists ∧ (writeComposer r w s).sched = s.sched
      ∧ (writeComposer r w s).images = s.images := by
  unfold writeComposer takeWord
  (repeat' split) <;> simp

@[simp] theorem writeLcntSel_frame (w : Word) (s : State) : (writeLcntSel w s).pending = s.pending
      ∧ (writeLcntSel w s).freeCount = s.freeCount ∧ (writeLcntSel w s).resetLow = s.resetLow
      ∧ (writeLcntSel w s).clear = s.clear ∧ (writeLcntSel w s).tb = s.tb
      ∧ (writeLcntSel w s).line = s.line ∧ (writeLcntSel w s).stations = s.stations
      ∧ (writeLcntSel w s).lists = s.lists ∧ (writeLcntSel w s).sched = s.sched
      ∧ (writeLcntSel w s).images = s.images ∧ (writeLcntSel w s).reqs = s.reqs := by
  unfold writeLcntSel takeWord
  (repeat' split) <;> simp

@[simp] theorem storeConfig_frame (r : ConfigReg) (w : Word) (s : State) :
    (storeConfig r w s).pending = s.pending ∧ (storeConfig r w s).freeCount = s.freeCount
      ∧ (storeConfig r w s).resetLow = s.resetLow ∧ (storeConfig r w s).clear = s.clear
      ∧ (storeConfig r w s).port = s.port ∧ (storeConfig r w s).stations = s.stations
      ∧ (storeConfig r w s).lists = s.lists ∧ (storeConfig r w s).sched = s.sched
      ∧ (storeConfig r w s).reqs = s.reqs := by
  unfold storeConfig takeWord
  (repeat' split) <;> simp

@[simp] theorem writeConfig_frame (r : ConfigReg) (w : Word) (s : State) :
    (writeConfig r w s).pending = s.pending ∧ (writeConfig r w s).freeCount = s.freeCount
      ∧ (writeConfig r w s).resetLow = s.resetLow ∧ (writeConfig r w s).clear = s.clear
      ∧ (writeConfig r w s).port = s.port ∧ (writeConfig r w s).stations = s.stations
      ∧ (writeConfig r w s).lists = s.lists ∧ (writeConfig r w s).sched = s.sched
      ∧ (writeConfig r w s).reqs = s.reqs := by
  unfold writeConfig inConfig
  (repeat' split) <;> simp

@[simp] theorem writeSyncMode_frame (w : Word) (s : State) : (writeSyncMode w s).pending = s.pending
      ∧ (writeSyncMode w s).freeCount = s.freeCount ∧ (writeSyncMode w s).resetLow = s.resetLow
      ∧ (writeSyncMode w s).clear = s.clear ∧ (writeSyncMode w s).port = s.port
      ∧ (writeSyncMode w s).line = s.line ∧ (writeSyncMode w s).stations = s.stations
      ∧ (writeSyncMode w s).lists = s.lists ∧ (writeSyncMode w s).sched = s.sched
      ∧ (writeSyncMode w s).images = s.images ∧ (writeSyncMode w s).reqs = s.reqs := by
  unfold writeSyncMode inConfig takeWord
  (repeat' split) <;> simp

@[simp] theorem storeWindow_frame (w : Word) (s : State) : (storeWindow w s).pending = s.pending
      ∧ (storeWindow w s).freeCount = s.freeCount ∧ (storeWindow w s).resetLow = s.resetLow
      ∧ (storeWindow w s).clear = s.clear ∧ (storeWindow w s).port = s.port
      ∧ (storeWindow w s).tb = s.tb ∧ (storeWindow w s).line = s.line
      ∧ (storeWindow w s).stations = s.stations ∧ (storeWindow w s).lists = s.lists
      ∧ (storeWindow w s).sched = s.sched := by
  unfold storeWindow
  (repeat' split) <;> simp

@[simp] theorem writeWindow_frame (w : Word) (s : State) : (writeWindow w s).pending = s.pending
      ∧ (writeWindow w s).freeCount = s.freeCount ∧ (writeWindow w s).resetLow = s.resetLow
      ∧ (writeWindow w s).clear = s.clear ∧ (writeWindow w s).tb = s.tb
      ∧ (writeWindow w s).line = s.line ∧ (writeWindow w s).stations = s.stations
      ∧ (writeWindow w s).lists = s.lists ∧ (writeWindow w s).sched = s.sched := by
  unfold writeWindow
  simp

@[simp] theorem writeWindowAddress_frame (w : Word) (s : State) :
    (writeWindowAddress w s).pending = s.pending ∧ (writeWindowAddress w s).freeCount = s.freeCount
      ∧ (writeWindowAddress w s).resetLow = s.resetLow ∧ (writeWindowAddress w s).clear = s.clear
      ∧ (writeWindowAddress w s).tb = s.tb ∧ (writeWindowAddress w s).line = s.line
      ∧ (writeWindowAddress w s).stations = s.stations ∧ (writeWindowAddress w s).lists = s.lists
      ∧ (writeWindowAddress w s).sched = s.sched ∧ (writeWindowAddress w s).images = s.images
      ∧ (writeWindowAddress w s).reqs = s.reqs := by
  unfold writeWindowAddress
  (repeat' split) <;> simp

@[simp] theorem readReg_frame (r : Reg) (s : State) : ((readReg r s).2).pending = s.pending
      ∧ ((readReg r s).2).freeCount = s.freeCount ∧ ((readReg r s).2).resetLow = s.resetLow
      ∧ ((readReg r s).2).clear = s.clear ∧ ((readReg r s).2).tb = s.tb
      ∧ ((readReg r s).2).line = s.line ∧ ((readReg r s).2).stations = s.stations
      ∧ ((readReg r s).2).lists = s.lists ∧ ((readReg r s).2).sched = s.sched
      ∧ ((readReg r s).2).images = s.images ∧ ((readReg r s).2).reqs = s.reqs := by
  unfold readReg readTimeLo readWindow
  (repeat' split) <;> simp

@[simp] theorem passMicrosecond_frame (s : State) : (passMicrosecond s).pending = s.pending
      ∧ (passMicrosecond s).freeCount = s.freeCount ∧ (passMicrosecond s).resetLow = s.resetLow
      ∧ (passMicrosecond s).port = s.port ∧ (passMicrosecond s).stations = s.stations
      ∧ (passMicrosecond s).lists = s.lists ∧ (passMicrosecond s).sched = s.sched
      ∧ (passMicrosecond s).images = s.images ∧ (passMicrosecond s).reqs = s.reqs
      ∧ (passMicrosecond s).events = s.events := by
  unfold passMicrosecond
  (repeat' split) <;> simp

@[simp] theorem passClock_frame (s : State) : (passClock s).pending = s.pending
      ∧ (passClock s).freeCount = s.freeCount ∧ (passClock s).resetLow = s.resetLow
      ∧ (passClock s).port = s.port ∧ (passClock s).stations = s.stations
      ∧ (passClock s).lists = s.lists ∧ (passClock s).sched = s.sched ∧ (passClock s).images = s.images
      ∧ (passClock s).reqs = s.reqs ∧ (passClock s).events = s.events := by
  unfold passClock
  (repeat' split) <;> simp

end Sys2Proof.Machine
end

