-- ==== Sys2Proof/Laws/Memory.lean ====
section
/-! SUPPORT. What Memory's operations do: reading after writing, and the canonical form, which every
operation keeps and in which equal contents are equal data. -/

namespace Sys2Proof.Machine

@[simp] theorem Memory.read_nil (a : Nat) : Memory.read [] a = 0 := rfl

theorem Memory.wf_nil : Memory.wf [] := ⟨List.Pairwise.nil, by simp⟩

/-- Below every listed address a canonical memory reads 0. -/
theorem Memory.read_below (m : Memory) (a : Nat) (h : ∀ c ∈ m, a < c.1) : Memory.read m a = 0 := by
  induction m with
  | nil => rfl
  | cons c m ih =>
    have hc := h c (by simp)
    unfold Memory.read
    rw [if_neg (by omega)]
    exact ih fun d hd => h d (by simp [hd])

/-- The addresses a write lists: those listed before, and the one written. -/
theorem Memory.mem_write {m : Memory} {a : Nat} {v : Byte} {c : Host.Cell}
    (h : c ∈ Memory.write m a v) : c ∈ m ∨ c = (a, v) := by
  induction m with
  | nil =>
    unfold Memory.write at h
    split at h <;> simp_all
  | cons d m ih =>
    unfold Memory.write at h
    (repeat' split at h) <;> simp_all <;> tauto

/-- A write keeps the canonical form. -/
theorem Memory.wf_write {m : Memory} (a : Nat) (v : Byte) (h : Memory.wf m) :
    Memory.wf (Memory.write m a v) := by
  induction m with
  | nil =>
    unfold Memory.write
    split
    · exact Memory.wf_nil
    · exact ⟨by simp, by simpa⟩
  | cons c m ih =>
    obtain ⟨hp, hn⟩ := h
    rw [List.pairwise_cons] at hp
    have hm : Memory.wf m := ⟨hp.2, fun d hd => hn d (by simp [hd])⟩
    have hc : c.2 ≠ 0 := hn c (by simp)
    unfold Memory.write
    split
    · rename_i hac
      split
      · exact ⟨by rw [List.pairwise_cons]; exact hp, hn⟩
      · rename_i hv
        refine ⟨?_, ?_⟩
        · rw [List.pairwise_cons, List.pairwise_cons]
          refine ⟨?_, hp⟩
          intro d hd
          rcases List.mem_cons.1 hd with rfl | hd
          · exact hac
          · exact Nat.lt_trans hac (hp.1 d hd)
        · intro d hd
          rcases List.mem_cons.1 hd with rfl | hd
          · exact hv
          · exact hn d hd
    · split
      · rename_i hne hac
        split
        · exact hm
        · rename_i hv
          refine ⟨?_, ?_⟩
          · rw [List.pairwise_cons]
            exact ⟨fun d hd => hac ▸ hp.1 d hd, hp.2⟩
          · intro d hd
            rcases List.mem_cons.1 hd with rfl | hd
            · exact hv
            · exact hm.2 d hd
      · rename_i hlt hne
        refine ⟨?_, ?_⟩
        · rw [List.pairwise_cons]
          refine ⟨?_, (ih hm).1⟩
          intro d hd
          rcases Memory.mem_write hd with hd | rfl
          · exact hp.1 d hd
          · exact lt_of_le_of_ne (Nat.le_of_not_lt hlt) (Ne.symm hne)
        · intro d hd
          rcases List.mem_cons.1 hd with rfl | hd
          · exact hc
          · exact (ih hm).2 d hd

/-- Reading after a write: the byte written at its address, what stood before at every other. -/
theorem Memory.read_write {m : Memory} (h : Memory.wf m) (a b : Nat) (v : Byte) :
    Memory.read (Memory.write m a v) b = if b = a then v else Memory.read m b := by
  induction m with
  | nil =>
    unfold Memory.write
    by_cases hb : b = a
    · subst hb
      split <;> simp_all [Memory.read]
    · have hb' : ¬ a = b := fun h => hb h.symm
      split <;> simp [hb', Memory.read]
  | cons c m ih =>
    obtain ⟨hp, hn⟩ := h
    rw [List.pairwise_cons] at hp
    have hm : Memory.wf m := ⟨hp.2, fun d hd => hn d (by simp [hd])⟩
    unfold Memory.write
    split
    · rename_i hac
      split
      · rename_i hv
        split
        · rename_i hb
          rw [hv, hb]
          refine Memory.read_below _ _ fun d hd => ?_
          rcases List.mem_cons.1 hd with rfl | hd
          · exact hac
          · exact Nat.lt_trans hac (hp.1 d hd)
        · rfl
      · conv_lhs => unfold Memory.read
        simp only [eq_comm]
    · split
      · rename_i hne hac
        split
        · rename_i hv
          split
          · rename_i hb
            rw [hv, hb]
            exact Memory.read_below _ _ fun d hd => hac ▸ hp.1 d hd
          · rename_i hb
            conv_rhs => unfold Memory.read
            rw [if_neg (by rw [← hac]; exact fun hh => hb hh.symm)]
        · conv_lhs => unfold Memory.read
          conv_rhs => unfold Memory.read
          rw [← hac]
          by_cases hb : b = a
          · simp [hb]
          · simp [hb, Ne.symm hb]
      · rename_i hlt hne
        conv_lhs => unfold Memory.read
        conv_rhs => unfold Memory.read
        rw [ih hm]
        by_cases hcb : c.1 = b
        · have : b ≠ a := fun hh => hne (hh ▸ hcb.symm)
          simp [hcb, this]
        · simp [hcb]

theorem Memory.wf_writeAll {m : Memory} (a : Nat) (bs : List Byte) (h : Memory.wf m) :
    Memory.wf (Memory.writeAll m a bs) := by
  induction bs generalizing m a with
  | nil => exact h
  | cons b bs ih => exact ih (a + 1) (Memory.wf_write a b h)

/-- The addresses that writing bytes lists: those listed before, and those written. -/
theorem Memory.mem_writeAll {m : Memory} {a : Nat} {bs : List Byte} {c : Host.Cell}
    (h : c ∈ Memory.writeAll m a bs) : c ∈ m ∨ (a ≤ c.1 ∧ c.1 < a + bs.length) := by
  induction bs generalizing m a with
  | nil => exact Or.inl h
  | cons b bs ih =>
    rcases ih h with h | ⟨h1, h2⟩
    · rcases Memory.mem_write h with h | rfl
      · exact Or.inl h
      · exact Or.inr ⟨Nat.le_refl _, by simp⟩
    · rw [List.length_cons]
      exact Or.inr ⟨by omega, by omega⟩

/-- Reading after writing bytes from `a` upward. -/
theorem Memory.read_writeAll {m : Memory} (h : Memory.wf m) (a b : Nat) (bs : List Byte) :
    Memory.read (Memory.writeAll m a bs) b
      = if a ≤ b ∧ b < a + bs.length then bs.getD (b - a) 0 else Memory.read m b := by
  induction bs generalizing m a with
  | nil =>
    rw [if_neg (by rw [List.length_nil]; omega)]
    rfl
  | cons v bs ih =>
    unfold Memory.writeAll
    rw [ih (Memory.wf_write a v h), Memory.read_write h]
    by_cases h1 : b = a
    · subst h1
      simp
    · by_cases h2 : a ≤ b ∧ b < a + (bs.length + 1)
      · have h3 : a + 1 ≤ b ∧ b < a + 1 + bs.length := by omega
        have h4 : b - a = (b - (a + 1)) + 1 := by omega
        rw [if_pos h3, if_pos (by simpa using h2), h4]
        simp
      · have h3 : ¬ (a + 1 ≤ b ∧ b < a + 1 + bs.length) := by omega
        rw [if_neg h3, if_neg h1, if_neg (by simpa using h2)]

@[simp] theorem Memory.readMany_length (m : Memory) (a n : Nat) : (Memory.readMany m a n).length = n := by
  induction n generalizing a with
  | zero => rfl
  | succ n ih => simp [Memory.readMany, ih]

/-- Two canonical memories with the same contents are the same data. -/
theorem Memory.ext {m n : Memory} (hm : Memory.wf m) (hn : Memory.wf n)
    (h : ∀ a, Memory.read m a = Memory.read n a) : m = n := by
  induction m generalizing n with
  | nil =>
    cases n with
    | nil => rfl
    | cons d n =>
      have := h d.1
      simp [Memory.read] at this
      exact absurd this.symm (hn.2 d (by simp))
  | cons c m ih =>
    obtain ⟨hp, hz⟩ := hm
    rw [List.pairwise_cons] at hp
    have hm' : Memory.wf m := ⟨hp.2, fun d hd => hz d (by simp [hd])⟩
    cases n with
    | nil =>
      have := h c.1
      simp [Memory.read] at this
      exact absurd this (hz c (by simp))
    | cons d n =>
      obtain ⟨hq, hw⟩ := hn
      rw [List.pairwise_cons] at hq
      have hn' : Memory.wf n := ⟨hq.2, fun e he => hw e (by simp [he])⟩
      have hcd : c.1 = d.1 := by
        rcases Nat.lt_trichotomy c.1 d.1 with hlt | heq | hgt
        · have := h c.1
          rw [Memory.read_below (d :: n) c.1 (by
            intro e he
            rcases List.mem_cons.1 he with rfl | he
            · exact hlt
            · exact Nat.lt_trans hlt (hq.1 e he))] at this
          simp [Memory.read] at this
          exact absurd this (hz c (by simp))
        · exact heq
        · have := h d.1
          rw [Memory.read_below (c :: m) d.1 (by
            intro e he
            rcases List.mem_cons.1 he with rfl | he
            · exact hgt
            · exact Nat.lt_trans hgt (hp.1 e he))] at this
          simp [Memory.read] at this
          exact absurd this.symm (hw d (by simp))
      have hv : c.2 = d.2 := by
        have := h c.1
        simpa [Memory.read, hcd] using this
      have hcd' : c = d := Prod.ext hcd hv
      subst hcd'
      congr 1
      refine ih hm' hn' fun a => ?_
      by_cases hca : c.1 = a
      · rw [Memory.read_below m a (fun e he => hca ▸ hp.1 e he),
          Memory.read_below n a (fun e he => hca ▸ hq.1 e he)]
      · have := h a
        simpa [Memory.read, hca] using this

end Sys2Proof.Machine
end

