-- ==== Sys2Proof/Laws/Stations.lean ====
section
/-! SUPPORT. Reading a station record after an update, and what the checks of ENABLE_STATION mean. -/

namespace Sys2Proof.Machine

/-- A record after one record was replaced. -/
theorem station_setStation (i j : Slot) (r : Station) (s : State) :
    (s.setStation i r).station j = if j = i then r else s.station j := by
  unfold State.setStation State.station
  simp only [Fin.getElem_fin, Vector.getElem_set]
  by_cases h : i = j
  · subst h
    simp
  · have h1 : ¬ j = i := fun e => h e.symm
    have h2 : ¬ i.val = j.val := fun e => h (Fin.ext e)
    simp [h1, h2]

/-- A record after one record was changed. -/
theorem station_modifyStation (i j : Slot) (f : Station → Station) (s : State) :
    (s.modifyStation i f).station j = if j = i then f (s.station i) else s.station j :=
  station_setStation i j (f (s.station i)) s

/-- A record after every record was changed. -/
theorem station_mapStations (j : Slot) (f : Station → Station) (s : State) :
    (s.mapStations f).station j = f (s.station j) := by
  unfold State.mapStations State.station
  simp

/-- States with one table have one record in each slot. -/
theorem station_congr {s t : State} (h : s.stations = t.stations) (i : Slot) :
    s.station i = t.station i := by
  unfold State.station
  rw [h]

/-- Two areas overlap exactly when they share a byte (R29). -/
theorem areasOverlap_iff (a n b m : Nat) :
    areasOverlap a n b m = true ↔ ∃ x, a ≤ x ∧ x < a + n ∧ b ≤ x ∧ x < b + m := by
  unfold areasOverlap
  simp only [Bool.and_eq_true, bne_iff_ne, decide_eq_true_eq]
  constructor
  · rintro ⟨⟨⟨h1, h2⟩, h3⟩, h4⟩
    exact ⟨max a b, by omega, by omega, by omega, by omega⟩
  · rintro ⟨x, h1, h2, h3, h4⟩
    refine ⟨⟨⟨?_, ?_⟩, ?_⟩, ?_⟩ <;> omega

theorem areasOverlap_symm (a n b m : Nat) : areasOverlap a n b m = areasOverlap b m a n := by
  rw [Bool.eq_iff_iff, areasOverlap_iff, areasOverlap_iff]
  constructor <;> rintro ⟨x, h1, h2, h3, h4⟩ <;> exact ⟨x, h3, h4, h1, h2⟩

theorem overlaps_symm (r q : Station) : r.overlaps q = q.overlaps r := by
  unfold Station.overlaps
  rw [areasOverlap_symm, areasOverlap_symm r.inOffset.toNat]

/-- The address check passes exactly when no other enabled station holds the address (R28). -/
theorem addressFree_iff (s : State) (i : Slot) :
    s.addressFree i = true ↔
      ∀ j, j ≠ i → (s.station j).enabled = true → (s.station j).address ≠ (s.station i).address := by
  unfold State.addressFree allSlots
  simp only [List.all_eq_true, List.mem_finRange, true_implies, Bool.or_eq_true, beq_iff_eq,
    Bool.not_eq_true', bne_iff_ne]
  constructor
  · intro h j h1 h2
    rcases h j with (h | h) | h
    · exact absurd h h1
    · rw [h] at h2
      cases h2
    · exact h
  · intro h j
    by_cases h1 : j = i
    · exact Or.inl (Or.inl h1)
    · cases h2 : (s.station j).enabled
      · exact Or.inl (Or.inr rfl)
      · exact Or.inr (h j h1 h2)

/-- The overlap check passes exactly when no other enabled station's areas clash (R29). -/
theorem areasFree_iff (s : State) (i : Slot) :
    s.areasFree i = true ↔
      ∀ j, j ≠ i → (s.station j).enabled = true → (s.station i).overlaps (s.station j) = false := by
  unfold State.areasFree allSlots
  simp only [List.all_eq_true, List.mem_finRange, true_implies, Bool.or_eq_true, beq_iff_eq,
    Bool.not_eq_true']
  constructor
  · intro h j h1 h2
    rcases h j with (h | h) | h
    · exact absurd h h1
    · rw [h] at h2
      cases h2
    · exact h
  · intro h j
    by_cases h1 : j = i
    · exact Or.inl (Or.inl h1)
    · cases h2 : (s.station j).enabled
      · exact Or.inl (Or.inr rfl)
      · exact Or.inr (h j h1 h2)

end Sys2Proof.Machine
end

