-- ==== Sys2Proof/Tests/Slice0.lean ====
section
/-! SUPPORT. The writer's own tests: the checks of WellFormed, the numbers the spec works out, and for each
statement a state and operands that meet its hypotheses, clause by clause. -/

set_option maxRecDepth 100000

namespace Sys2Proof.Tests

open Sys2Proof.Machine

/-! ## States -/

/-- CONFIG as a power-on reset leaves it. -/
def config : State := { State.reset with clear := none, sched.ctrl := .config }

/-- A run in a phase, with the engine in a state. -/
def running (p : Phase) (e : EngineState) : State :=
  { config with
    sched.ctrl := .running, sched.phase := p, tb.armed := true, tb.nextStart := some 10000,
    line.engine := e, line.quiet := some 0 }

def stopping : State := { running .sync .transmit with sched.ctrl := .stopping }

def faulted : State := { config with sched.ctrl := .faulted }

/-- An enabled station with both areas 4 bytes long from byte 8. -/
def active : Station :=
  { address := 9, outLen := 4, outOffset := 8, inLen := 4, inOffset := 8, enabled := true,
    health := .active }

def lost : Station := { active with health := .lost, consecutiveMiss := 3 }

/-- The state with a record at slot 3. -/
def with3 (s : State) (r : Station) : State := s.setStation 3 r

def syncPiece : Piece := { work := .sync 5 }

def callPiece : Piece := { work := .exchange 3 9 4 true false [1, 2] }

def callStalePiece : Piece := { work := .exchange 3 9 4 false true [] }

def requestPiece : Piece := { work := .attempt 3 9 7 [5], toggleSent := true }

def request : Request :=
  { tag := 1, slot := 3, service := 7, payload := [5], replyMax := 2, retryLimit := 1, deadline := 0,
    postedCycle := 0 }

def flying : Request := { request with inFlight := true, attemptsUsed := 1 }

def completion : Completion :=
  { tag := 1, outcome := .done, slot := 3, attemptsUsed := 1, replyTime := 0, cycle := 0 }

def event : EventRecord := ⟨.lineFault, 0xFF, 12, 50740, 1⟩

def reply (b : Byte) : LineChar := { data := b, mark := false, stop := true }

/-! ## WellFormed -/

theorem test_illFormed_unknownCommand : (Instr.unknownCommand 0x51 0).wellFormed = false := by decide

theorem test_illFormed_registerWrite : (Instr.registerWrite 0x05#6 0).wellFormed = false := by decide

theorem test_illFormed_unmappedRegisterRead :
    (Instr.unmappedRegisterRead 0x00#6).wellFormed = false := by decide

theorem test_wellFormed : (Instr.unknownCommand 0x52 0).wellFormed = true
    ∧ (Instr.registerWrite 0x39#6 0).wellFormed = true
    ∧ (Instr.registerWrite 0x3D#6 0).wellFormed = true
    ∧ (Instr.unmappedRegisterRead 0x17#6).wellFormed = true := by decide

/-! ## Numbers the spec works out -/

/-- R9. -/
theorem test_check : crc16 [0x31, 0x32, 0x33, 0x34, 0x35, 0x36, 0x37, 0x38, 0x39] = 0x29B1#16 := by
  decide

/-- The SYNC frame's bytes up to its check, and the headers and controls of the worked examples. -/
theorem test_frames :
    ((Work.sync 0x0102).frame false 0x00012345).take 9
        = [0xC0, 0x00, 0x06, 0x02, 0x01, 0x45, 0x23, 0x01, 0x00]
      ∧ headerByte .call 5 = 0x05 ∧ callControl true false = 0x02
      ∧ headerByte .request 9 = 0x89 ∧ requestControl true 0x11 = 0x91 := by decide

/-- Table 1-11: the durations of R18 at the rate codes 3, 4 and 5. -/
theorem test_durations :
    [3#3, 4#3, 5#3].map (fun code =>
        let l := { config.line with rateCode := code }
        [l.syncBits, l.pollBits 4 6, l.pollBits 0 8, l.pollBits 10 20].map l.micros)
      = [[132, 311, 297, 587], [66, 156, 149, 294], [33, 78, 75, 147]] := by decide

/-- Table 10-1: words right after the end of the clear. -/
theorem test_words : config.regWord .state = 0x0001 ∧ config.regWord .listEntry = 0x0020
    ∧ config.regWord (.station .stnLimits) = 0x1003
    ∧ (running .awaitFirst .idle).regWord .state = 0x000A := by decide

/-- 10.5: a LINE_FAULT of cause BUSY in cycle 12 at TIME 50740. -/
theorem test_eventBytes :
    event.bytes = [0x30, 0xFF, 0x0C, 0x00, 0x34, 0xC6, 0x00, 0x00, 0x01, 0x00] := by decide

/-- No word of the table spells a command. -/
theorem test_noBits : decodeTableWord 0 0 = none ∧ State.reset.withFetchWord 16 7 = State.reset :=
  ⟨rfl, rfl⟩

/-! ## The hypotheses of the statements

One theorem for each statement that has any: states and operands that meet them, each clause of a statement
at a boundary of its range. -/

theorem test_hyps_StepTakesTheFrontCommand :
    { config with pending := [.timeTick] }.pending = .timeTick :: [] := rfl

theorem test_hyps_StepOnAnEmptyQueue :
    (config.pending = [] ∧ dueEvents config = [])
      ∧ dueEvents { config with tb.syncout := some 32 } = [.syncoutPulseEnd]
      ∧ 2 ≤ (dueEvents { running .quiet .idle with tb.syncout := some 32, tb.time := 10000 }).length := by
  repeat' apply And.intro
  all_goals decide

def clearing (n : Nat) : State := { State.reset with clear := some n }

theorem test_hyps_ResetnLowHoldsEveryBlock :
    ∃ q n, State.powerOn = { State.powerOn with pending := q, freeCount := n } := ⟨[], 0, rfl⟩

theorem test_hyps_BufferClearEndsResetting :
    State.powerOn.resetLow = true ∧ config.serves
      ∧ (clearing 6399).ResetHeld ∧ (clearing 6400).ResetHeld
      ∧ (clearing 6400).sched.ctrl = .resetting ∧ (clearing 6400).clear = some 6400 := by
  unfold State.serves State.ResetHeld
  repeat' apply And.intro
  all_goals decide

theorem test_hyps_ResettingTakesNoAccess :
    (clearing 0).ResetHeld ∧ (clearing 0).resetLow = false ∧ (clearing 0).sched.ctrl = .resetting
      ∧ Instr.winDataRead.isRead = true ∧ (Instr.start 0).commandBytes.isSome = true
      ∧ (Instr.winDataWrite 1).isAccess = true ∧ (Instr.winDataWrite 1).isRead = false := by
  unfold State.ResetHeld
  repeat' apply And.intro
  all_goals decide

theorem test_hyps_CommandsRecordTheirResult :
    (Instr.stop 5).commandBytes = some (0x02, 5) ∧ config.serves
      ∧ (0x00 : Byte) ∉ commandCodes ∧ (0x52 : Byte) ∉ commandCodes
      ∧ (stopping.serves ∧ stopping.sched.ctrl ≠ .config ∧ stopping.sched.ctrl ≠ .running
          ∧ stopping.sched.ctrl ≠ .faulted ∧ stopping.sched.ctrl = .stopping)
      ∧ faulted.serves ∧ faulted.sched.ctrl = .faulted := by
  unfold State.serves
  repeat' apply And.intro
  all_goals decide

/-- The ranges that START checks, as its statement writes them. -/
abbrev inRange (s : State) : Prop :=
  s.line.rateCode.toNat ≤ 5
    ∧ (8 ≤ s.line.respWin.toNat ∧ s.line.respWin.toNat ≤ 255)
    ∧ (1 ≤ s.line.charGap.toNat ∧ s.line.charGap.toNat ≤ 63)
    ∧ (2 ≤ s.line.guardTime.toNat ∧ s.line.guardTime.toNat ≤ 63)
    ∧ 100 ≤ s.line.busyLimit.toNat
    ∧ (100 ≤ s.tb.period.toNat ∧ s.tb.period.toNat ≤ 1000000)
    ∧ s.tb.reserve.toNat ≤ 1000

/-- Every value at its lower bound: in range, and nothing fits. -/
def lowest : State := { config with
  line.rateCode := 0, line.respWin := 8, line.charGap := 1, line.guardTime := 2, line.busyLimit := 100
  tb.period := 100, tb.reserve := 0 }

/-- Every value at its upper bound: in range, and the empty list fits. -/
def highest : State := { config with
  line.rateCode := 5, line.respWin := 255, line.charGap := 63, line.guardTime := 63
  line.busyLimit := 65535, tb.period := 1000000, tb.reserve := 1000 }

theorem test_hyps_StartJudgesAndBeginsTheRun :
    lowest.serves ∧ lowest.sched.ctrl = .config ∧ inRange lowest ∧ inRange highest
      ∧ ¬ (lowest.line.budgetOff = true ∨ lowest.listFits none lowest.lists.activeList = true)
      ∧ highest.listFits none highest.lists.activeList = true
      ∧ ¬ inRange { lowest with line.rateCode := 6 } ∧ ¬ inRange { lowest with line.respWin := 7 }
      ∧ ¬ inRange { highest with line.respWin := 256 } ∧ ¬ inRange { lowest with line.charGap := 0 }
      ∧ ¬ inRange { highest with line.charGap := 64 } ∧ ¬ inRange { lowest with line.guardTime := 1 }
      ∧ ¬ inRange { highest with line.guardTime := 64 } ∧ ¬ inRange { lowest with line.busyLimit := 99 }
      ∧ ¬ inRange { lowest with tb.period := 99 } ∧ ¬ inRange { highest with tb.period := 1000001 }
      ∧ ¬ inRange { highest with tb.reserve := 1001 } := by
  unfold State.serves
  repeat' apply And.intro
  all_goals decide

theorem test_hyps_StopBeginsOrEndsTheDraining :
    (running .quiet .idle).serves ∧ (running .quiet .idle).sched.ctrl = .running
      ∧ (running .quiet .idle).line.piece = none
      ∧ ({ running .sync .transmit with line.piece := some syncPiece } : State).line.piece.isSome := by
  unfold State.serves
  repeat' apply And.intro
  all_goals decide

theorem test_hyps_ClearFaultEndsFaulted :
    faulted.serves ∧ faulted.sched.ctrl = .faulted ∧ config.sched.ctrl = .config
      ∧ (running .quiet .idle).sched.ctrl = .running ∧ stopping.sched.ctrl = .stopping := by
  unfold State.serves
  repeat' apply And.intro
  all_goals decide

theorem test_hyps_SoftResetResetsEveryBlock : config.serves ∧ (running .quiet .idle).serves := by
  unfold State.serves
  repeat' apply And.intro
  all_goals decide

/-- A record at slot 5 beside the enabled one at slot 3. -/
def beside (r : Station) : State := (with3 config active).setStation 5 r

theorem test_hyps_EnableStationJudgesAndEnables :
    (beside {address := 5}).serves
      ∧ (with3 config active).station 3 = active
      ∧ ¬ (1020 + 5 ≤ 1024) ∧ 1020 + 4 ≤ 1024
      ∧ ((beside { address := 9 }).station 5).address = ((beside { address := 9 }).station 3).address
      ∧ (let s := beside { address := 5, outLen := 1, outOffset := 11 };
        (s.station 3).enabled = true ∧ (s.station 3).address ≠ (s.station 5).address
          ∧ (s.station 5).overlaps (s.station 3) = true)
      ∧ (let s := beside { address := 5, outLen := 1, outOffset := 12 };
        (s.station 5).enabled = false ∧ s.addressFree 5 = true ∧ s.areasFree 5 = true
          ∧ s.listFits (some 5) s.lists.activeList = true
          ∧ ({ s with tb.period := 100 } : State).listFits (some 5) s.lists.activeList = false) := by
  unfold State.serves
  repeat' apply And.intro
  all_goals decide

theorem test_hyps_DisableStationDisablesAndMarks :
    (with3 config active).serves ∧ ((with3 config active).station 3).enabled = true
      ∧ (config.station 31).enabled = false ∧ 32 ≤ (32 : Byte).toNat
      ∧ ({ running .cyclic .receive with line.piece := some callPiece } : State).line.piece
          = some callPiece
      ∧ ({ running .acyclic .receive with
            line.piece := some requestPiece, reqs.queue := [flying] } : State).attemptOnLine = true := by
  unfold State.serves
  repeat' apply And.intro
  all_goals decide

theorem test_hyps_ClearCountersClears :
    config.serves ∧ (31 : Byte).toNat = (31 : Slot).val ∧ 32 ≤ (32 : Byte).toNat
      ∧ 32 ≤ (254 : Byte).toNat ∧ (254 : Byte) ≠ 0xFF := by
  unfold State.serves
  repeat' apply And.intro
  all_goals decide

theorem test_hyps_SwitchListSwitchesOrWaits :
    config.serves ∧ config.sched.ctrl ≠ .stopping ∧ config.lists.pendingSwitch = false
      ∧ config.listFits none config.lists.shadowList = true
      ∧ ({ config with tb.period := 231 } : State).listFits none config.lists.shadowList = false
      ∧ ({ config with tb.period := 232 } : State).listFits none config.lists.shadowList = true
      ∧ (running .quiet .idle).sched.ctrl = .running ∧ faulted.sched.ctrl ≠ .running
      ∧ ({ config with lists.pendingSwitch := true } : State).lists.pendingSwitch = true := by
  unfold State.serves
  repeat' apply And.intro
  all_goals decide

/-- A run with a commit pending and a command waiting. -/
def committed : State :=
  { running .quiet .idle with images.commitPending := true, pending := [.timeTick] }

theorem test_hyps_CommitOutputsFreezesStaged :
    (config.serves ∧ config.sched.ctrl ≠ .faulted ∧ config.images.commitPending = false)
      ∧ committed.ResetHeld ∧ committed.images.RolesHeld ∧ committed.images.commitPending = true
      ∧ ∃ t, step committed = .next t ∧ t.images.commitPending = true := by
  refine ⟨?_, ?_, ?_, rfl, _, rfl, rfl⟩
  · unfold State.serves; decide
  · unfold State.ResetHeld; decide
  · unfold Images.RolesHeld; decide

theorem test_hyps_TakeInputsExchangesReadyAndHeld :
    (State.reset.resetLow = false ∧ State.reset.sched.ctrl = .resetting)
      ∧ config.serves ∧ config.images.inputFresh = false
      ∧ ({ config with images.inputFresh := true } : State).images.inputFresh = true := by
  unfold State.serves
  repeat' apply And.intro
  all_goals decide

/-- A run in QUIET with one request waiting for the active station at slot 3. -/
def waiting (r : Request) : State := { with3 (running .quiet .idle) active with reqs.queue := [r] }

theorem test_hyps_AdmissionExaminesTheHead :
    config.reqs.queue = [] ∧ (waiting request).reqs.queue = request :: []
      ∧ (let s := { waiting request with reqs.completions := List.replicate 8 completion };
        request.inFlight = false ∧ ¬ (s.reqs.completions.length + s.reqs.inFlight < 8))
      ∧ (let s := { waiting request with reqs.completions := List.replicate 7 completion };
        s.reqs.completions.length + s.reqs.inFlight < 8)
      ∧ (with3 (waiting request) lost).station 3 = lost ∧ lost.health = .lost
      ∧ ((waiting request).station 3).enabled = true ∧ ((waiting request).station 3).health ≠ .lost
      ∧ ¬ ((5 - 0 : Word).toNat < (5 : Byte).toNat) ∧ (4 - 0 : Word).toNat < (5 : Byte).toNat
      ∧ (waiting request).tb.nextStart = some 10000
      ∧ request.worstMicros (waiting request).line + 100 ≤ (10000 - (waiting request).tb.time).toNat := by
  repeat' apply And.intro
  all_goals decide

theorem test_hyps_PostRequestAndPopCompletion :
    config.serves ∧ config.reqs.completions = []
      ∧ ({ config with reqs.queue := List.replicate 8 request } : State).reqs.queue.length = 8
      ∧ ({ config with reqs.queue := List.replicate 7 request } : State).reqs.queue.length < 8
      ∧ ({ config with reqs.completions := [completion] } : State).reqs.completions = completion :: [] := by
  unfold State.serves
  repeat' apply And.intro
  all_goals decide

theorem test_hyps_CancelRequestFindsItsRequest :
    (let s : State := { running .acyclic .receive with
        line.piece := some requestPiece, reqs.queue := [flying, request] };
      s.serves ∧ s.reqs.QueuesHeld ∧ s.reqs.queue = flying :: [request] ∧ flying.tag = 1
        ∧ flying.inFlight = true ∧ flying.cancelRequested = false ∧ s.attemptOnLine = true)
      ∧ (let s : State := { running .quiet .idle with reqs.queue := [flying] };
        s.serves ∧ s.reqs.QueuesHeld ∧ s.attemptOnLine = false)
      ∧ (let s : State := { config with
            reqs.queue := [request], reqs.completions := List.replicate 7 completion };
        s.serves ∧ s.reqs.QueuesHeld ∧ s.reqs.queue = [] ++ request :: [] ∧ request.tag = 1
          ∧ request.inFlight = false ∧ s.reqs.completions.length + s.reqs.inFlight < 8)
      ∧ (let s : State := { config with
            reqs.queue := [request], reqs.completions := List.replicate 8 completion };
        s.serves ∧ s.reqs.QueuesHeld ∧ 8 ≤ s.reqs.completions.length + s.reqs.inFlight)
      ∧ ∀ r ∈ config.reqs.queue, ¬ (r.tag = 1 ∧ r.inFlight = false) := by
  unfold State.serves Requests.QueuesHeld
  repeat' apply And.intro
  all_goals decide

theorem test_hyps_EventQueueCommands :
    (State.reset.resetLow = false ∧ State.reset.sched.ctrl = .resetting) ∧ config.serves
      ∧ config.events.queue = []
      ∧ ({ config with events.queue := [event] } : State).events.queue = event :: [] := by
  unfold State.serves
  repeat' apply And.intro
  all_goals decide

theorem test_hyps_RegisterReadsAndUnmappedOffsets :
    config.serves ∧ regAt 0x00#6 = some .ident ∧ regAt 0x3F#6 ≠ none
      ∧ (Instr.registerWrite 0x00#6 5).wellFormed = true
      ∧ (Instr.unmappedRegisterRead 0x3D#6).wellFormed = true := by
  unfold State.serves
  repeat' apply And.intro
  all_goals decide

theorem test_hyps_IntStatusAndIntEnable :
    config.serves ∧ (0x007F : Word).extractLsb' 7 9 = 0 ∧ (0x0080 : Word).extractLsb' 7 9 ≠ 0 := by
  unfold State.serves
  repeat' apply And.intro
  all_goals decide

theorem test_hyps_StationRegistersSelectAndConfigure :
    config.serves ∧ (31 : Word).toNat = (31 : Slot).val ∧ 32 ≤ (32 : Word).toNat
      ∧ (config.station config.port.stnSel).enabled = false
      ∧ (let s : State := { with3 config active with port.stnSel := 3 };
        s.serves ∧ (s.station s.port.stnSel).enabled = true) := by
  unfold State.serves
  repeat' apply And.intro
  all_goals decide

theorem test_hyps_ListSelAndListInfo :
    config.serves ∧ (63 : Word).toNat ≤ 63 ∧ 63 < (64 : Word).toNat
      ∧ Instr.timeTick.wellFormed = true ∧ Instr.timeTick ≠ .resetnLow
      ∧ ∃ t, exec .timeTick config = .next t := by
  refine ⟨?_, by decide, by decide, rfl, by decide, _, rfl⟩
  unfold State.serves; decide

/-- Slot 31, divisor 16, phase 15. -/
def lastEntry : Word := 0x3E1F

theorem test_hyps_ListEntryStoresAtThePosition :
    config.serves ∧ config.lists.pendingSwitch = false
      ∧ (lastEntry.toNat < 16384 ∧ (lastEntry.extractLsb' 5 5).toNat = 16
          ∧ (lastEntry.extractLsb' 10 4).toNat < (lastEntry.extractLsb' 5 5).toNat)
      ∧ ¬ (1 ≤ ((0 : Word).extractLsb' 5 5).toNat) ∧ ¬ ((0x4020 : Word).toNat < 16384)
      ∧ ¬ (((0x1080 : Word).extractLsb' 10 4).toNat < ((0x1080 : Word).extractLsb' 5 5).toNat) := by
  unfold State.serves
  repeat' apply And.intro
  all_goals decide

theorem test_hyps_ListLenSetsTheLength :
    config.serves ∧ config.lists.pendingSwitch = false ∧ (64 : Word).toNat ≤ 64
      ∧ 64 < (65 : Word).toNat := by
  unfold State.serves
  repeat' apply And.intro
  all_goals decide

theorem test_hyps_ComposerRegistersStore :
    config.serves ∧ (31 : Word).toNat = (31 : Slot).val ∧ 31 < (32 : Word).toNat := by
  unfold State.serves
  repeat' apply And.intro
  all_goals decide

theorem test_hyps_LcntSelSelectsACounter :
    config.serves ∧ (12 : Word).toNat ≤ 12 ∧ 12 < (13 : Word).toNat
      ∧ ({ config with port.lcntSel := 12 } : State).port.lcntSel.toNat < 13
      ∧ Instr.timeTick.wellFormed = true ∧ ∃ t, exec .timeTick config = .next t := by
  refine ⟨?_, by decide, by decide, by decide, rfl, _, rfl⟩
  unfold State.serves; decide

theorem test_hyps_ConfigurationRegistersStoreInConfig :
    config.serves ∧ config.sched.ctrl = .config ∧ faulted.serves ∧ faulted.sched.ctrl ≠ .config := by
  unfold State.serves
  repeat' apply And.intro
  all_goals decide

theorem test_hyps_WinAddrHoldsAnEvenAddress :
    config.serves ∧ (0x0FFF : Word).toNat < 4096 ∧ 4096 ≤ (0x1000 : Word).toNat
      ∧ Instr.timeTick.wellFormed = true ∧ ∃ t, exec .timeTick config = .next t := by
  refine ⟨?_, by decide, by decide, rfl, _, rfl⟩
  unfold State.serves; decide

/-- CONFIG with WIN_ADDR at an address. -/
def windowAt (a : BitVec 12) : State := { config with port.winAddr := a }

/-- The first and last even address of every region, and of the holes between them. -/
theorem test_hyps_WindowReadsAndWrites :
    (∀ a, (windowAt a).serves ∧ (windowAt a).port.winAddr = a)
      ∧ ([0x000#12, 0x3FE#12, 0x400#12, 0x7FE#12, 0x800#12, 0x9FE#12, 0xA00#12, 0xA1E#12, 0xA20#12,
        0xAFE#12, 0xB00#12, 0xB76#12, 0xB78#12, 0xBFE#12, 0xC00#12, 0xC0E#12, 0xC10#12, 0xC86#12,
        0xC88#12, 0xCFE#12, 0xD00#12, 0xD0E#12, 0xD10#12, 0xFFE#12].all fun a => a.toNat % 2 == 0) = true
      ∧ (0x800 + 16 * (31 : Slot).val ≤ (0x9FE#12).toNat ∧ (0x9FE#12).toNat < 0x800 + 16 * 31 + 16)
      ∧ config.images.MemoryHeld ∧ Memory.wf config.reqs.payload := by
  refine ⟨fun a => ⟨⟨rfl, fun h => ?_⟩, rfl⟩, by decide, ⟨by decide, by decide⟩,
    ⟨by decide, by decide⟩, by decide⟩
  cases h

theorem test_hyps_TimeTickPulseAndTimeReads :
    State.powerOn.resetLow = true ∧ config.resetLow = false
      ∧ ({ config with tb.syncout := some 32 } : State).tb.syncout = some 32
      ∧ ({ config with tb.syncout := some 31 } : State).tb.syncout = some 31
      ∧ config.tb.syncout = none ∧ ({ config with tb.prescaler := 31 } : State).tb.prescaler = 31
      ∧ ({ config with tb.prescaler := 30 } : State).tb.prescaler ≠ 31 ∧ config.serves
      ∧ ∃ t, exec (.popEvent 0) config = .next t := by
  refine ⟨rfl, rfl, rfl, rfl, rfl, rfl, by decide, ?_, _, rfl⟩
  unfold State.serves; decide

/-- An external run in a tracker state, at a TIME, with a start expected at 1000. -/
def tracking (k : TrackerState) (now : Time) : State :=
  { running .quiet .idle with
    tb.external := true, tb.tracker := k, tb.nextStart := some 1000, tb.time := now }

theorem test_hyps_ExpiriesDeliverGridStarts :
    (let s := { running .quiet .idle with tb.time := 10000 };
      s.tb.nextStart = some 10000 ∧ s.tb.armed = true ∧ s.tb.external = false
        ∧ (s.tb.time - 10000).toNat = 0)
      ∧ (9999 - 10000 : Time).toNat = 2 ^ 32 - 1 ∧ config.tb.armed = false
      ∧ (let s := tracking .locked 1050;
        s.tb.nextStart = some 1000 ∧ s.tb.armed = true ∧ s.tb.external = true ∧ s.tb.missCount ≠ 2
          ∧ (s.tb.time - (1000 + s.tb.syncTol.zeroExtend 32)).toNat = 0)
      ∧ ({ tracking .coasting 1050 with tb.missCount := 2 } : State).tb.missCount = 2
      ∧ (tracking .unlocked 1050).tb.tracker = .unlocked
      ∧ 2 ^ 31 ≤ ((tracking .locked 1049).tb.time - (1000 + 50)).toNat
      ∧ (tracking .acquiring 0).tb.tracker = .acquiring := by
  repeat' apply And.intro
  all_goals decide

theorem test_hyps_SyncinEdgesAreAcceptedOrStray :
    (let s := tracking .locked 950;
      s.tb.armed = true ∧ s.tb.external = true ∧ (s.tb.falling = true ↔ SyncEdge.rising = .falling)
        ∧ s.tb.nextStart = some 1000 ∧ (s.tb.time - (1000 - 50)).toNat ≤ 2 * s.tb.syncTol.toNat)
      ∧ ((tracking .coasting 1050).tb.time - (1000 - 50)).toNat ≤ 2 * 50
      ∧ 2 * 50 < ((tracking .locked 1051).tb.time - (1000 - 50)).toNat
      ∧ 2 * 50 < ((tracking .locked 949).tb.time - (1000 - 50)).toNat
      ∧ (tracking .acquiring 0).tb.tracker = .acquiring ∧ (tracking .unlocked 0).tb.tracker = .unlocked
      ∧ ¬ (config.tb.armed = true) := by
  repeat' apply And.intro
  all_goals decide

theorem test_hyps_CycleStartAnswers :
    (running .quiet .idle).sched.ctrl = .running ∧ (running .awaitFirst .idle).sched.phase = .awaitFirst
      ∧ (running .cyclic .receive).sched.phase = .cyclic ∧ (running .sync .guard).sched.phase = .sync
      ∧ (let s : State := { running .acyclic .receive with line.piece := some requestPiece };
        s.sched.phase = .acyclic ∧ s.attemptOnLine = true ∧ s.sched.held = none)
      ∧ ({ running .acyclic .receive with sched.held := some 5 } : State).sched.held.isSome = true
      ∧ (running .acyclic .idle).attemptOnLine = false ∧ stopping.sched.ctrl ≠ .running := by
  repeat' apply And.intro
  all_goals decide

theorem test_hyps_NoticesAndLineCounters :
    (List.replicate 31 event).length < 32 ∧ 32 ≤ (List.replicate 32 event).length
      ∧ (254 : Byte) ≠ 255 := by
  repeat' apply And.intro
  all_goals decide

theorem test_hyps_TheCheckOfAFrame : 15 < 16 ∧ 0 < 1 ∧ (crcBit 0x8000#16 false) = 0x1021#16 := by
  repeat' apply And.intro
  all_goals decide

/-- A run whose line has been quiet for a number of CLKIN periods, in an engine state with a piece. -/
def quietFor (n : Nat) (e : EngineState) (p : Option Piece) : State :=
  { running .cyclic e with line.quiet := some n, line.piece := p, line.busy := some 32000 }

theorem test_hyps_HandoverAndOpeningGuard :
    (let s := quietFor 352 .guard (some callPiece);
      s.line.rx = none ∧ s.line.quiet = some 352 ∧ s.line.clocks s.line.guardTime.toNat = 352
        ∧ s.line.engine = .guard ∧ s.line.piece = some callPiece ∧ callPiece.report = none
        ∧ s.line.busy = some (s.line.clocks s.line.busyLimit.toNat))
      ∧ ¬ ((quietFor 351 .guard none).line.clocks 11 ≤ 351)
      ∧ (quietFor 0 .idle none).line.engine ≠ .guard
      ∧ callPiece.work = .exchange 3 9 4 true false [1, 2] ∧ syncPiece.work = .sync 5
      ∧ requestPiece.work = .attempt 3 9 7 [5] := by
  repeat' apply And.intro
  all_goals decide

theorem test_hyps_ArrivalAndStartBitSample :
    config.line.engine = .off ∧ (running .cyclic .awaitReply).line.rx = none
      ∧ (let s := { running .cyclic .awaitReply with line.window := some 1280 };
        s.line.clocks s.line.respWin.toNat = 1280)
      ∧ (let s := { running .cyclic .awaitReply with line.window := some 1281 };
        s.line.clocks s.line.respWin.toNat < 1281)
      ∧ (let s := { running .cyclic .receive with line.gap := some 129 };
        s.line.engine = .receive ∧ s.line.clocks s.line.charGap.toNat < 129)
      ∧ (let s := { running .cyclic .receive with
            line.rx := some { elapsed := 16, quietBefore := some 0, asHeader := true } };
        s.line.clocks 1 ≤ 2 * 16)
      ∧ 2 * 15 < config.line.clocks 1 := by
  repeat' apply And.intro
  all_goals decide

/-- RECEIVE with a buffer and a character whose 11 bit times have passed. -/
def receiving (buf : List Byte) (p : Piece) : State :=
  { running .cyclic .receive with
    line.rxBuf := buf, line.piece := some p
    line.rx := some { elapsed := 352, quietBefore := some 0, sampled := true } }

theorem test_hyps_CharactersComplete :
    (receiving [] callPiece).line.rx = some { elapsed := 352, quietBefore := some 0, sampled := true }
      ∧ config.line.clocks 11 = 352 ∧ 351 < config.line.clocks 11
      ∧ (receiving [] callPiece).line.engine = .receive
      ∧ ((reply 121).mark = true ↔ 2 = 0) ∧ 120 < (reply 121).data.toNat
      ∧ ¬ (120 < (reply 120).data.toNat) ∧ ¬ ((reply 0).mark = true ↔ ([] : List Byte).length = 0)
      ∧ (running .quiet .idle).line.engine = .idle ∧ (running .cyclic .settle).line.engine = .settle := by
  repeat' apply And.intro
  all_goals decide

/-- A NOT_READY reply of station 9 and its check, worked by the rule R9 itself. -/
def notReadyReply : List Byte := frameBytes 0x49 0 []

theorem test_hyps_CompleteRepliesAreClassified :
    (∃ lo hi, notReadyReply = [0x49, 0, 0, lo, hi]
      ∧ (receiving [0x49, 0, 0, lo] callPiece).line.rxBuf = 0x49 :: 0 :: 0 :: [] ++ [lo]
      ∧ crc16 (0x49 :: 0 :: 0 :: []) = hi ++ lo
      ∧ ¬ crc16 (0x49 :: 0 :: 0 :: []) = (hi + 1) ++ lo)
      ∧ ([] : List Byte).length = (0 : Byte).toNat
      ∧ ((0x49 : Byte).extractLsb' 6 2 = 1 ∧ (0x49 : Byte).extractLsb' 0 6 = 9)
      ∧ ((0x00 : Byte).getLsbD 1 = false ∧ (0 : Byte) = 0)
      ∧ ¬ (((0x02 : Byte).getLsbD 1 = true ∧ (0 : Byte).toNat = (4 : BitVec 6).toNat)
          ∨ ((0x02 : Byte).getLsbD 1 = false ∧ (0 : Byte) = 0))
      ∧ ((0x00 : Byte).getLsbD 0 ≠ requestPiece.toggleSent
          ∧ (0x01 : Byte).getLsbD 0 = requestPiece.toggleSent) := by
  refine ⟨⟨crc16 [0x49, 0, 0] |>.extractLsb' 0 8, crc16 [0x49, 0, 0] |>.extractLsb' 8 8, ?_⟩, ?_⟩ <;>
    decide

/-- TRANSMIT at the end of a character of the piece's frame. -/
def sending (p : Piece) (k collisions : Nat) : State :=
  { running .cyclic .transmit with
    line.piece := some { p with frame := [9, 2, 0, 7, 8] }, line.txIndex := k
    line.txElapsed := 352 * (k + 1), line.collisionRun := collisions }

theorem test_hyps_EchoCheckJudgesEveryCharacter :
    (sending callPiece 0 0).line.engine = .transmit
      ∧ (sending callPiece 0 0).line.clocks 11 ≤ (sending callPiece 0 0).line.txElapsed
      ∧ (2 * 16 ≤ config.line.clocks 1 ∧ ¬ (2 * 17 ≤ config.line.clocks 1))
      ∧ frameChar [9, 2, 0, 7, 8] 0 = { data := 9, mark := true, stop := true }
      ∧ 3 + 1 < 5 ∧ 5 ≤ (sending syncPiece 4 0).line.txIndex + 1
      ∧ syncPiece.work.isSync = true ∧ callPiece.work.isSync = false
      ∧ (sending callPiece 0 1).line.collisionRun < 2 ∧ 2 ≤ (sending callPiece 0 2).line.collisionRun := by
  repeat' apply And.intro
  all_goals decide

/-- The pins at the boundaries of the eleven bits of the character of index 1: the start bit, the last data
bit, the mark bit, the stop bit, and the wait after it. -/
theorem test_hyps_EchoCheckPins :
    (let at_ (n : Nat) := { sending callPiece 1 0 with line.txElapsed := 32 * n };
      (at_ 11).line.txElapsed / (at_ 11).line.clocks 1 = 11 * 1 + 0
        ∧ (at_ 21).line.txElapsed / (at_ 21).line.clocks 1 = 11 * 1 + 10
        ∧ 11 * (1 + 1) ≤ (at_ 22).line.txElapsed / (at_ 22).line.clocks 1
        ∧ [11, 12, 13, 19, 20, 21, 22].map (fun n => (at_ n).txd)
            = [false, false, true, false, false, true, true])
      ∧ config.line.engine ≠ .transmit := by
  repeat' apply And.intro
  all_goals decide

/-- R139: a transition that is discarded does not undo the entry into SETTLE at its own instant, and without
one it leaves the quiet timer as if it had not come. -/
theorem test_discardKeepsTheRestart :
    (match exec .rxdCharacterArrival (sending callPiece 0 0) with
      | .next a =>
        match exec (.echoCheck none) a with
        | .next b =>
          match exec (.startBitMiddleSample true) (passClocks 16 b) with
          | .next t => (t.line.engine, t.line.quiet)
          | _ => (.off, none)
        | _ => (.off, none)
      | _ => (.off, none)) = (.settle, some 16)
      ∧ (match exec .rxdCharacterArrival (quietFor 300 .guard (some callPiece)) with
        | .next a =>
          match exec (.startBitMiddleSample true) (passClocks 16 a) with
          | .next t => (t.line.engine, t.line.quiet)
          | _ => (.off, none)
        | _ => (.off, none)) = (.guard, some 316) := by
  repeat' apply And.intro
  all_goals decide

/-- R133: a response window that runs out inside a transition which is then discarded, 22 CLKIN periods before
the sample and in the microsecond before it, gives a TIMEOUT of its own instant, and the closing guard counts
from there. -/
theorem test_timeoutIsDatedBack :
    (let s : State := { running .cyclic .awaitReply with
        line.window := some 1270, line.piece := some callPiece, tb.time := 100 };
      match exec .rxdCharacterArrival s with
      | .next a =>
        match exec (.startBitMiddleSample true) (passMicrosecond a) with
        | .next b =>
          match exec .responseWindowExpiry b with
          | .next t =>
            (b.tb.time, t.line.engine, t.line.piece.bind (·.report), t.line.quiet, t.line.busy)
          | _ => (0, .off, none, none, none)
        | _ => (0, .off, none, none, none)
      | _ => (0, .off, none, none, none))
      = (101, .guard, some ⟨.timeout, 100⟩, some 22, some 22) := by decide

theorem test_hyps_WindowGapAndSettleEnds :
    (let s := { running .cyclic .awaitReply with line.window := some 1280 };
      s.line.engine = .awaitReply ∧ s.line.window = some 1280
        ∧ s.line.clocks s.line.respWin.toNat ≤ 1280 ∧ 1279 < s.line.clocks s.line.respWin.toNat
        ∧ s.line.clocks s.line.respWin.toNat ≤ 1296)
      ∧ (let s := { running .cyclic .receive with line.gap := some 128 };
        s.line.gap = some 128 ∧ s.line.rx = none ∧ s.line.clocks s.line.charGap.toNat ≤ 128
          ∧ 127 < s.line.clocks s.line.charGap.toNat)
      ∧ (receiving [] callPiece).line.rx.isSome = true
      ∧ (let s := quietFor 480 .settle (some callPiece);
        s.line.engine = .settle ∧ s.line.clocks (s.line.charGap.toNat + 11) = 480
          ∧ s.line.busy = some (s.line.clocks s.line.busyLimit.toNat))
      ∧ config.line.engine ≠ .settle := by
  repeat' apply And.intro
  all_goals decide

theorem test_hyps_ClosingGuardReportsAndTheWalkGoesOn :
    (let p := { callPiece with report := some ⟨.timeout, 7⟩ };
      let s := quietFor 352 .guard (some p);
      s.line.engine = .guard ∧ s.line.piece = some p ∧ p.report = some ⟨.timeout, 7⟩
        ∧ s.line.rx = none ∧ s.line.clocks s.line.guardTime.toNat ≤ 352
        ∧ s.sched.ctrl = .running ∧ s.sched.held = none)
      ∧ stopping.sched.ctrl = .stopping
      ∧ ((3 : Word).toNat % (4 : BitVec 5).toNat = (3 : BitVec 4).toNat
          ∧ ¬ ((4 : Word).toNat % (4 : BitVec 5).toNat = (3 : BitVec 4).toNat))
      ∧ (lost.health = .lost ∧ ({ lost with probeCountdown := 1 } : Station).probeCountdown ≠ 0)
      ∧ ¬ (active.enabled = false ∨ (active.health = .lost ∧ active.probeCountdown ≠ 0)) := by
  repeat' apply And.intro
  all_goals decide

theorem test_hyps_LineFaultEndsTheRun :
    (quietFor 0 .settle (some callPiece)).line.engine = .settle
      ∧ (quietFor 0 .settle none).line.busy = some 32000
      ∧ config.line.clocks config.line.busyLimit.toNat = 32000
      ∧ config.line.engine ≠ .guard ∧ config.line.engine ≠ .settle
      ∧ (waiting flying).reqs.queue = flying :: [] ∧ flying.inFlight = true
      ∧ request.inFlight = false := by
  repeat' apply And.intro
  all_goals decide

theorem test_hyps_ExchangeOutcomesAreApplied :
    ((3 : BitVec 4) = active.missLimit ∧ active.health ≠ .lost)
      ∧ ((2 : BitVec 4) ≠ active.missLimit ∧ active.health = .active)
      ∧ lost.consecutiveMiss = lost.missLimit
      ∧ ((0x2 : BitVec 4).getLsbD 1 = true ∧ (0x5 : BitVec 4).getLsbD 1 = false) := by
  repeat' apply And.intro
  all_goals decide

theorem test_hyps_AttemptOutcomesAreApplied :
    (waiting flying).reqs.queue = flying :: [] ∧ flying.inFlight = true
      ∧ flying.attemptsUsed.toNat < flying.retryLimit.toNat + 1
      ∧ ¬ (({ flying with attemptsUsed := 2 } : Request).attemptsUsed.toNat < flying.retryLimit.toNat + 1)
      ∧ flying.cancelRequested = false ∧ flying.disabledDuring = false := by
  repeat' apply And.intro
  all_goals decide

/-- The laws that the invariants are about, in CONFIG, and a step from there. -/
theorem test_hyps_EveryStepKeepsBanksQueuesTracker :
    config.images.RolesHeld ∧ config.images.MemoryHeld ∧ Memory.wf config.reqs.payload
      ∧ config.WindowHeld ∧ config.reqs.QueuesHeld ∧ config.events.QueueHeld ∧ config.tb.TrackerHeld
      ∧ ∃ t, step { config with pending := [.timeTick] } = .next t := by
  refine ⟨?_, ?_, by decide, ?_, ?_, ?_, rfl, _, rfl⟩
  · unfold Images.RolesHeld; decide
  · unfold Images.MemoryHeld; decide
  · unfold State.WindowHeld; decide
  · unfold Requests.QueuesHeld; decide
  · unfold Events.QueueHeld; decide

theorem test_hyps_EveryStepKeepsStationsListsRun :
    config.TableHeld ∧ config.HealthHeld ∧ config.lists.InRange ∧ config.RunHeld ∧ config.ResetHeld := by
  have record : ∀ i : Slot, config.station i = { address := BitVec.ofNat 6 (i.val + 1) } := by
    intro i
    show powerOnStations[i] = _
    simp [powerOnStations]
  refine ⟨⟨fun i => ?_, fun i h => ?_, fun i j _ h _ => ?_⟩, ⟨fun i => ?_, trivial⟩, ?_, ?_, ?_⟩
  · rw [record]
    revert i
    unfold Station.InRange
    decide
  · rw [record] at h
    cases h
  · rw [record] at h
    cases h
  · rw [record]
    refine ⟨by show (3 : BitVec 4) ≠ 0; decide, ?_, ?_⟩
    · intro h
      cases h
    · intro _
      exact ⟨rfl, rfl⟩
  · have entries : ExchangeList.InRange {} := ⟨by decide, fun k => by simp⟩
    exact ⟨entries, entries⟩
  · refine ⟨fun h => ?_, fun _ => ⟨rfl, rfl, rfl, rfl, rfl, rfl⟩⟩
    rcases h with h | h <;> cases h
  · unfold State.ResetHeld
    decide

end Sys2Proof.Tests
end

section
/-! R9: what the check does bit by bit and byte by byte, and where a frame carries it. -/

namespace Sys2Proof.Machine

/-! ## One bit of the check -/

/-- The set bits of the divisor x^16 + x^12 + x^5 + 1, whose x^16 stands for the bit shifted out. -/
theorem getLsbD_divisor {k : Nat} (hk : k < 16) :
    (0x1021#16).getLsbD k = (k == 0 || k == 5 || k == 12) := by
  have every : ∀ i : Fin 16, (0x1021#16).getLsbD i.val = (i.val == 0 || i.val == 5 || i.val == 12) := by
    decide
  exact every ⟨k, hk⟩

/-- Shifting the register brings in a 0 at the bottom. -/
theorem getLsbD_shiftLeft_one (c : Word) {k : Nat} (hk : k < 16) :
    (c <<< 1).getLsbD k = (decide (0 < k) && c.getLsbD (k - 1)) := by
  have inside : decide (k < 16) = true := decide_eq_true hk
  have notBottom : (!decide (k < 1)) = decide (0 < k) := by cases k <;> simp
  rw [BitVec.getLsbD_shiftLeft, inside, notBottom, Bool.true_and]

theorem crcBit_of_eq {c : Word} {b : Bool} (h : b = c.msb) : crcBit c b = c <<< 1 := if_pos h

theorem crcBit_of_ne {c : Word} {b : Bool} (h : b ≠ c.msb) :
    crcBit c b = (c <<< 1) ^^^ 0x1021#16 := if_neg h

/-- The two branches of `crcBit` differ in the divisor's positions alone, and the branch is taken by
whether the bit and the old top bit differ. -/
theorem getLsbD_crcBit (c : Word) (b : Bool) {k : Nat} (hk : k < 16) :
    (crcBit c b).getLsbD k =
      ((decide (0 < k) && c.getLsbD (k - 1))
        ^^ ((k == 0 || k == 5 || k == 12) && (b ^^ c.getLsbD 15))) := by
  have top : c.msb = c.getLsbD 15 := BitVec.msb_eq_getLsbD_last c
  by_cases h : b = c.msb
  · have same : (b ^^ c.getLsbD 15) = false := by rw [h, top, Bool.xor_self]
    rw [crcBit_of_eq h, getLsbD_shiftLeft_one c hk, same, Bool.and_false, Bool.xor_false]
  · have differ : (b ^^ c.getLsbD 15) = true := by rwa [← top, bne_iff_ne]
    rw [crcBit_of_ne h, BitVec.getLsbD_xor, getLsbD_shiftLeft_one c hk, getLsbD_divisor hk, differ,
      Bool.and_true]

/-! ## The check over bytes -/

@[simp] theorem crc16_nil : crc16 [] = 0xFFFF#16 := rfl

/-- The check of one byte more goes on from the register the bytes before it left. -/
theorem crc16_concat (bs : List Byte) (b : Byte) : crc16 (bs ++ [b]) = crcByte (crc16 bs) b :=
  List.foldl_concat crcByte _ b bs

/-- A byte is taken from its most significant bit down. -/
theorem crcByte_eq_bits (c : Word) (b : Byte) :
    crcByte c b =
      crcBit (crcBit (crcBit (crcBit (crcBit (crcBit (crcBit (crcBit c
        (b.getLsbD 7)) (b.getLsbD 6)) (b.getLsbD 5)) (b.getLsbD 4)) (b.getLsbD 3)) (b.getLsbD 2))
        (b.getLsbD 1)) (b.getLsbD 0) := rfl

/-- The check value R9 gives for station designers, through the register after each byte. -/
theorem crc16_digits :
    crc16 [0x31, 0x32, 0x33, 0x34, 0x35, 0x36, 0x37, 0x38, 0x39] = 0x29B1#16 := by
  have byte31 : crcByte 0xFFFF#16 0x31 = 0xC782#16 := by decide
  have byte32 : crcByte 0xC782#16 0x32 = 0x3DBA#16 := by decide
  have byte33 : crcByte 0x3DBA#16 0x33 = 0x5BCE#16 := by decide
  have byte34 : crcByte 0x5BCE#16 0x34 = 0x5349#16 := by decide
  have byte35 : crcByte 0x5349#16 0x35 = 0x4560#16 := by decide
  have byte36 : crcByte 0x4560#16 0x36 = 0x2EF4#16 := by decide
  have byte37 : crcByte 0x2EF4#16 0x37 = 0x7718#16 := by decide
  have byte38 : crcByte 0x7718#16 0x38 = 0xA12B#16 := by decide
  have byte39 : crcByte 0xA12B#16 0x39 = 0x29B1#16 := by decide
  simp only [crc16, List.foldl_cons, List.foldl_nil, byte31, byte32, byte33, byte34,
    byte35, byte36, byte37, byte38, byte39]

/-! ## The check in a frame -/

/-- A frame is its header, control, length and payload, then their check, low byte first. -/
theorem frameBytes_eq_body_check (h c : Byte) (p : List Byte) :
    frameBytes h c p =
      ([h, c, BitVec.ofNat 8 p.length] ++ p)
        ++ wordBytes (crc16 ([h, c, BitVec.ofNat 8 p.length] ++ p)) := rfl

theorem wordBytes_eq_extract (w : Word) :
    wordBytes w = [w.extractLsb' 0 8, w.extractLsb' 8 8] := rfl

/-- Only the header's character, the first, has the mark bit (R3). -/
theorem frameChar_mark_of_pos (frame : List Byte) {k : Nat} (hk : 0 < k) :
    (frameChar frame k).mark = false :=
  beq_false_of_ne hk.ne'

/-- Settles O44: the register's bits come from `getLsbD_crcBit`, the order of a byte's bits from
`crcByte_eq_bits`, and the check's place from `frameBytes_eq_body_check`. -/
theorem theCheckOfAFrame : Obligations.TheCheckOfAFrame := by
  unfold Obligations.TheCheckOfAFrame
  refine ⟨crc16_nil, fun bs b => ?bytes, fun c b k hk => getLsbD_crcBit c b hk,
    fun h c p => ⟨?place, fun k hk => frameChar_mark_of_pos _ hk⟩, crc16_digits⟩
  case bytes => rw [crc16_concat, crcByte_eq_bits]
  case place => rw [frameBytes_eq_body_check, wordBytes_eq_extract]

end Sys2Proof.Machine
end

section
/-! R42: the station table that a low RESETn leaves. -/

namespace Sys2Proof.Machine

/-! ## Tables of disabled stations -/

/-- The laws of areas and addresses bind enabled stations alone (R27, R28), so a table without one has
only its ranges to meet. -/
theorem tableHeld_of_disabled {s : State} (inRange : ∀ i, (s.station i).InRange)
    (disabled : ∀ i, (s.station i).enabled = false) : s.TableHeld := by
  refine ⟨inRange, fun i enabled => ?areas, fun i _ _ enabled _ => ?pairs⟩
  case areas => exact absurd enabled (by simp [disabled i])
  case pairs => exact absurd enabled (by simp [disabled i])

theorem Station.healthLaw_of_disabled {r : Station} (limit : r.missLimit ≠ 0)
    (disabled : r.enabled = false) (offline : r.health = .offline) (miss : r.consecutiveMiss = 0) :
    r.HealthLaw :=
  ⟨limit, fun enabled => absurd enabled (by simp [disabled]), fun _ => ⟨offline, miss⟩⟩

theorem exchangeLive_none (v : Vector Station 32) : ExchangeLive none v := trivial

/-! ## The records at power-on -/

/-- The record of a slot at power-on: Table 2-2's defaults at the address that follows the slot. -/
theorem station_powerOn (i : Slot) :
    State.powerOn.station i = { address := BitVec.ofNat 6 (i.val + 1) } := by
  show powerOnStations[i] = _
  simp [powerOnStations]

/-- The 32 addresses 1 to 32 fit the six bits of the field, so none of them wraps to the broadcast 0. -/
theorem powerOnAddress_ne_zero (i : Slot) : BitVec.ofNat 6 (i.val + 1) ≠ 0 := by
  intro zero
  have wrapped : (i.val + 1) % 64 = 0 := congrArg BitVec.toNat zero
  omega

theorem inRange_powerOn (i : Slot) : (State.powerOn.station i).InRange := by
  rw [station_powerOn]
  refine ⟨powerOnAddress_ne_zero i, ?outLen, ?inLen, ?missLimit, ?probeInterval⟩
  all_goals simp

theorem tableHeld_powerOn : State.powerOn.TableHeld :=
  tableHeld_of_disabled inRange_powerOn fun i => by rw [station_powerOn]

theorem healthHeld_powerOn : State.powerOn.HealthHeld := by
  refine ⟨fun i => ?record, exchangeLive_none _⟩
  obtain ⟨_, _, _, limit, _⟩ := inRange_powerOn i
  refine Station.healthLaw_of_disabled limit ?disabled ?offline ?miss
  all_goals rw [station_powerOn]

/-- Settles O5: a low RESETn leaves the records, the piece in hand and STN_SEL of `State.powerOn`, and the
laws of the table and of health read nothing else. -/
theorem powerOnResetSetsEveryStationRecord : Obligations.PowerOnResetSetsEveryStationRecord := by
  unfold Obligations.PowerOnResetSetsEveryStationRecord
  intro s
  exact ⟨{ State.powerOn with pending := s.pending, freeCount := s.freeCount }, rfl,
    station_powerOn, rfl, tableHeld_powerOn, healthHeld_powerOn⟩

end Sys2Proof.Machine
end

section
/-! R34: CLEAR_COUNTERS, and what a served command answers. -/

namespace Sys2Proof.Machine

/-! ## A served command -/

theorem recordResult_eq_answered (c a : Byte) (r : ResultCode) (s : State) :
    recordResult c a r s = s.answered c a r := rfl

/-- An accepted command leaves its effect with its answer (R160, R161). -/
theorem exec_command_accepted {i : Instr} {c a : Byte} {s t : State}
    (bytes : i.commandBytes = some (c, a)) (served : s.serves) (ok : commandBody c a s = .ok t) :
    exec i s = .next (t.answered c a .accepted) := by
  rw [exec_command bytes, takeCommand_accepted served ok, recordResult_eq_answered]

/-- A refused command leaves its answer alone (R160, R161). -/
theorem exec_command_refused {i : Instr} {c a : Byte} {s : State} {r : ResultCode}
    (bytes : i.commandBytes = some (c, a)) (served : s.serves) (error : commandBody c a s = .error r) :
    exec i s = .next (s.answered c a r) := by
  rw [exec_command bytes, takeCommand_refused served error, recordResult_eq_answered]

/-! ## The slot in an argument -/

theorem slotOfArg_of_eq {arg : Byte} {i : Slot} (h : arg.toNat = i.val) : slotOfArg arg = some i := by
  have inside : arg.toNat < 32 := h ▸ i.isLt
  have same : (⟨arg.toNat, inside⟩ : Slot) = i := Fin.ext h
  rw [slotOfArg, dif_pos inside, same]

theorem slotOfArg_of_le {arg : Byte} (h : 32 ≤ arg.toNat) : slotOfArg arg = none :=
  dif_neg (Nat.not_lt.mpr h)

/-! ## The three kinds of argument of CLEAR_COUNTERS -/

theorem clearCountersBody_slot {arg : Byte} {i : Slot} (h : arg.toNat = i.val) (s : State) :
    clearCountersBody arg s = .ok (s.modifyStation i Station.clearCounters) := by
  simp only [clearCountersBody, slotOfArg_of_eq h]

theorem clearCountersBody_line (s : State) :
    clearCountersBody 0xFF s = .ok { s with line.counters := Vector.replicate 13 0 } := rfl

theorem clearCountersBody_other {arg : Byte} (h : 32 ≤ arg.toNat) (hline : arg ≠ 0xFF#8) (s : State) :
    clearCountersBody arg s = .error .badArgument := by
  simp only [clearCountersBody, slotOfArg_of_le h, if_neg hline]

/-- Settles O16: `clearCountersBody` by the kind of the argument, behind a served command register. -/
theorem clearCountersClears : Obligations.ClearCountersClears := by
  unfold Obligations.ClearCountersClears
  intro s arg served
  refine ⟨fun i slot => ?slot, fun line => ?line, fun other notLine => ?other⟩
  case slot => exact exec_command_accepted rfl served (clearCountersBody_slot slot s)
  case line =>
    subst line
    exact exec_command_accepted rfl served (clearCountersBody_line s)
  case other => exact exec_command_refused rfl served (clearCountersBody_other other notLine s)

end Sys2Proof.Machine
end

section
/-! R46 to R48: the writes of LIST_SEL, LIST_ENTRY and LIST_LEN, what LIST_INFO shows, and what leaves
LIST_SEL as it is. -/

namespace Sys2Proof.Machine

/-! ## Register writes -/

theorem takeWord_some {α : Type} (x : α) (f : α → State → State) (s : State) :
    takeWord (some x) f s = f x s := rfl

theorem takeWord_none {α : Type} (f : α → State → State) (s : State) :
    takeWord none f s = s.withAccess := rfl

/-- A served write row is the write of its register. -/
theorem exec_write_served {i : Instr} {r : Reg} {w : Word} {s t : State}
    (writes : i.writes = some (r, w)) (served : s.serves) (write : writeReg r w s = t) :
    exec i s = .next t := by
  rw [exec_write writes, hostWrite_served served, write]

/-- A register that holds one field reads it below zeros (R182). -/
theorem word_eq_append {k n : Nat} (x : BitVec n) : x.zeroExtend (k + n) = 0#k ++ x := by
  rw [BitVec.zeroExtend, BitVec.setWidth_eq_append (Nat.le_add_left n k)]
  simp

/-! ## The words of LIST_SEL, LIST_ENTRY and LIST_LEN -/

theorem positionOfWord_of_le {w : Word} (h : w.toNat ≤ 63) :
    positionOfWord w = some (w.extractLsb' 0 6) :=
  if_pos (by omega)

theorem positionOfWord_of_lt {w : Word} (h : 63 < w.toNat) : positionOfWord w = none :=
  if_neg (by omega)

theorem lengthOfWord_of_le {w : Word} (h : w.toNat ≤ 64) : lengthOfWord w = some (w.extractLsb' 0 7) :=
  if_pos h

theorem lengthOfWord_of_lt {w : Word} (h : 64 < w.toNat) : lengthOfWord w = none :=
  if_neg (by omega)

/-- Bits 15:14 are 0 in the words below 2^14 alone. -/
theorem extract_top_eq_zero_iff (w : Word) : w.extractLsb' 14 2 = 0 ↔ w.toNat < 16384 := by
  rw [← BitVec.toNat_inj, BitVec.extractLsb'_toNat, Nat.shiftRight_eq_div_pow]
  have bound : w.toNat < 65536 := w.isLt
  show w.toNat / 16384 % 4 = 0 ↔ _
  omega

/-- The three fields of a word of LIST_ENTRY. -/
def entryFields (w : Word) : ListEntry :=
  { slot := (w.extractLsb' 0 5).toFin, divisor := w.extractLsb' 5 5, phase := w.extractLsb' 10 4 }

/-- The fields of a word of LIST_ENTRY are in range, and no other position is set (R47, R182). -/
def EntryValid (w : Word) : Prop :=
  w.toNat < 16384 ∧ 1 ≤ (entryFields w).divisor.toNat ∧ (entryFields w).divisor.toNat ≤ 16
    ∧ (entryFields w).phase.toNat < (entryFields w).divisor.toNat

theorem entryOfWord_of_valid {w : Word} (h : EntryValid w) : entryOfWord w = some (entryFields w) := by
  obtain ⟨top, fields⟩ := h
  exact if_pos ⟨(extract_top_eq_zero_iff w).mpr top, fields⟩

theorem entryOfWord_of_not_valid {w : Word} (h : ¬ EntryValid w) : entryOfWord w = none :=
  if_neg fun ⟨top, fields⟩ => h ⟨(extract_top_eq_zero_iff w).mp top, fields⟩

/-! ## Replacing the SHADOW list -/

@[simp] theorem Lists.setShadow_active (l : Lists) (x : ExchangeList) :
    (l.setShadow x).active = l.active := by
  unfold Lists.setShadow
  split <;> rfl

@[simp] theorem Lists.setShadow_pendingSwitch (l : Lists) (x : ExchangeList) :
    (l.setShadow x).pendingSwitch = l.pendingSwitch := by
  unfold Lists.setShadow
  split <;> rfl

@[simp] theorem Lists.shadowList_setShadow (l : Lists) (x : ExchangeList) :
    (l.setShadow x).shadowList = x := by
  unfold Lists.shadowList Lists.setShadow
  cases l.active <;> rfl

@[simp] theorem Lists.activeList_setShadow (l : Lists) (x : ExchangeList) :
    (l.setShadow x).activeList = l.activeList := by
  unfold Lists.activeList Lists.setShadow
  cases l.active <;> rfl

/-! ## The three writes -/

theorem writeListSel_of_le {w : Word} (h : w.toNat ≤ 63) (s : State) :
    writeListSel w s = { s with port.listSel := w.extractLsb' 0 6 } := by
  rw [writeListSel, positionOfWord_of_le h, takeWord_some]

theorem writeListSel_of_lt {w : Word} (h : 63 < w.toNat) (s : State) :
    writeListSel w s = s.withAccess := by
  rw [writeListSel, positionOfWord_of_lt h, takeWord_none]

theorem writeListEntry_of_valid {w : Word} {s : State} (free : s.lists.pendingSwitch = false)
    (valid : EntryValid w) : writeListEntry w s = setShadowEntry (entryFields w) s := by
  rw [writeListEntry, free, if_neg (by decide), entryOfWord_of_valid valid, takeWord_some]

theorem writeListEntry_ignored {w : Word} {s : State}
    (h : s.lists.pendingSwitch = true ∨ ¬ EntryValid w) : writeListEntry w s = s.withAccess := by
  unfold writeListEntry
  split
  · rfl
  next free =>
    have invalid : ¬ EntryValid w := h.resolve_left free
    rw [entryOfWord_of_not_valid invalid, takeWord_none]

theorem writeListLen_of_le {w : Word} {s : State} (free : s.lists.pendingSwitch = false)
    (h : w.toNat ≤ 64) :
    writeListLen w s =
      { s with lists := s.lists.setShadow { s.lists.shadowList with len := w.extractLsb' 0 7 } } := by
  rw [writeListLen, free, if_neg (by decide), lengthOfWord_of_le h, takeWord_some]

theorem writeListLen_ignored {w : Word} {s : State}
    (h : s.lists.pendingSwitch = true ∨ 64 < w.toNat) : writeListLen w s = s.withAccess := by
  unfold writeListLen
  split
  · rfl
  next free => rw [lengthOfWord_of_lt (h.resolve_left free), takeWord_none]

/-- The SHADOW list after an entry is stored: that entry at LIST_SEL, the others as before. -/
theorem shadowList_setShadowEntry (e : ListEntry) (s : State) (k : Fin 64) :
    (setShadowEntry e s).lists.shadowList.entries[k] =
      if k.val = s.port.listSel.toNat then e else s.lists.shadowList.entries[k] := by
  simp [setShadowEntry, Vector.getElem_set, eq_comm]

/-- Settles O29: `entryOfWord` by the validity of the word, then what storing an entry does to the lists. -/
theorem listEntryStoresAtThePosition : Obligations.ListEntryStoresAtThePosition := by
  unfold Obligations.ListEntryStoresAtThePosition
  intro s w served
  refine ⟨fun free valid => ?stored, fun wrong => ?ignored, rfl⟩
  case stored =>
    refine ⟨setShadowEntry (entryFields w) s,
      exec_write_served rfl served (writeListEntry_of_valid free valid), rfl, ?_, ?_, ?_, ?_,
      shadowList_setShadowEntry _ s⟩
    all_goals simp [setShadowEntry, free]
  case ignored => exact exec_write_served rfl served (writeListEntry_ignored wrong)

/-- Settles O30: `lengthOfWord` by the word's range, then what a new SHADOW list does to the lists. -/
theorem listLenSetsTheLength : Obligations.ListLenSetsTheLength := by
  unfold Obligations.ListLenSetsTheLength
  intro s w served
  refine ⟨fun free inside => ?stored, fun wrong => ?ignored, word_eq_append (k := 9) _⟩
  case stored =>
    have whole : (w.extractLsb' 0 7).toNat = w.toNat := by
      rw [BitVec.extractLsb'_toNat, Nat.shiftRight_zero]
      exact Nat.mod_eq_of_lt (by omega)
    refine ⟨_, exec_write_served rfl served (writeListLen_of_le free inside), rfl, ?_, ?_, ?_, ?_, ?_⟩
    all_goals simp [free, whole]
  case ignored => exact exec_write_served rfl served (writeListLen_ignored wrong)

/-! ## What LIST_INFO shows -/

/-- A 1-bit field stands at the position below it. -/
theorem getLsbD_append_ofBool {n m : Nat} (x : BitVec n) (p : Bool) (y : BitVec m) :
    (x ++ BitVec.ofBool p ++ y).getLsbD m = p := by
  rw [BitVec.getLsbD_append, if_neg (Nat.lt_irrefl m), BitVec.getLsbD_append, Nat.sub_self,
    if_pos Nat.one_pos, BitVec.getLsbD_ofBool]
  simp

theorem listInfo_active (s : State) : (s.regWord .listInfo).getLsbD 0 = s.lists.active := by
  show BitVec.getLsbD (_ ++ BitVec.ofBool s.lists.active) 0 = _
  rw [BitVec.getLsbD_append, if_pos Nat.one_pos]
  simp

theorem listInfo_pendingSwitch (s : State) :
    (s.regWord .listInfo).getLsbD 1 = s.lists.pendingSwitch :=
  getLsbD_append_ofBool _ _ _

theorem listInfo_activeLen (s : State) :
    (s.regWord .listInfo).extractLsb' 2 7 = s.lists.activeList.len := by
  show (s.lists.shadowList.len ++ s.lists.activeList.len ++ BitVec.ofBool _ ++ BitVec.ofBool _).extractLsb'
    2 7 = _
  rw [BitVec.extractLsb'_append_eq_of_le (by decide), BitVec.extractLsb'_append_eq_of_le (by decide)]
  exact BitVec.extractLsb'_append_eq_right

theorem listInfo_shadowLen (s : State) :
    (s.regWord .listInfo).extractLsb' 9 7 = s.lists.shadowList.len := by
  show (s.lists.shadowList.len ++ s.lists.activeList.len ++ BitVec.ofBool _ ++ BitVec.ofBool _).extractLsb'
    9 7 = _
  rw [BitVec.extractLsb'_append_eq_of_le (by decide), BitVec.extractLsb'_append_eq_of_le (by decide)]
  exact BitVec.extractLsb'_append_eq_left

/-! ## What leaves LIST_SEL as it is -/

/-- LIST_SEL stands in `t` as it stood in `s`. -/
def ListSelKept (s t : State) : Prop := t.port.listSel = s.port.listSel

theorem ListSelKept.refl (s : State) : ListSelKept s s := rfl

theorem ListSelKept.of_port {s t : State} (h : t.port = s.port) : ListSelKept s t :=
  congrArg HostPort.listSel h

/-- The effect of an accepted command leaves the Host Port; its answer alone is written there (R161). -/
theorem Accepted.port_eq {s t : State} (h : Accepted s t) : t.port = s.port := by
  cases h <;> simp

/-- A row that is neither an access nor a command leaves the Host Port as it is, but for a low RESETn. -/
theorem exec_event_port {i : Instr} {s t : State} (noCommand : i.commandBytes = none)
    (noAccess : i.isAccess = false) (notReset : i ≠ .resetnLow) (h : exec i s = .next t) :
    t.port = s.port := by
  cases i <;> simp only [Instr.commandBytes, Instr.isAccess, reduceCtorEq] at noCommand noAccess
  case resetnLow => exact absurd rfl notReset
  case timeTick =>
    cases h
    simp
  case echoCheck e =>
    cases h
    dsimp only
    (repeat' split) <;> simp
  case startBitMiddleSample level =>
    cases h
    (repeat' split) <;> simp
  all_goals
    cases h
    split <;> simp

theorem writeReg_keeps_listSel {r : Reg} (notCommand : r ≠ .command) (notListSel : r ≠ .listSel)
    (w : Word) (s : State) : ListSelKept s (writeReg r w s) := by
  cases r
  case command => exact absurd rfl notCommand
  case listSel => exact absurd rfl notListSel
  case stnSel => exact takeWord_keeps (P := ListSelKept s) rfl fun _ _ => rfl
  case lcntSel => exact takeWord_keeps (P := ListSelKept s) rfl fun _ _ => rfl
  case winAddr =>
    show ListSelKept s (writeWindowAddress w s)
    unfold writeWindowAddress
    split <;> rfl
  case winData => simp [ListSelKept, writeReg, writeWindow, advanceWindow]
  all_goals exact .of_port (by simp [writeReg])

theorem readReg_keeps_listSel (r : Reg) (s : State) : ListSelKept s (readReg r s).2 := by
  rcases readReg_cases r s with e | e | e | e <;> rw [e] <;> rfl

theorem readOffset_keeps_listSel (a : BitVec 6) (s : State) : ListSelKept s (readOffset a s).2 := by
  unfold readOffset
  split
  · exact readReg_keeps_listSel _ s
  · rfl

theorem hostRead_keeps_listSel {s : State} {f : State → Word × State} (h : ListSelKept s (f s).2) :
    ListSelKept s (hostRead f s) :=
  hostRead_keeps (.refl s) (fun _ _ kept => kept) fun _ => h

/-- A well-formed REGISTER_WRITE reaches a read-only register or none, so its write is ignored (R182). -/
theorem writeOffset_of_wellFormed {a : BitVec 6} {w : Word}
    (wellFormed : (Instr.registerWrite a w).wellFormed = true) (s : State) :
    writeOffset a w s = s.withAccess := by
  have offset : a ∈ unmappedOffsets ++ readOnlyOffsets := by
    simpa [Instr.wellFormed] using wellFormed
  fin_cases offset <;> rfl

/-- Only LIST_SEL_WRITE is the row of LIST_SEL. -/
theorem writes_listSel {i : Instr} {w : Word} (h : i.writes = some (.listSel, w)) :
    i = .listSelWrite w := by
  cases i <;> simp_all [Instr.writes]

/-- The rows that are no write of a register of their own: reads, writes that are ignored, and events. -/
theorem exec_other_keeps_listSel {i : Instr} {s t : State} (noCommand : i.commandBytes = none)
    (noWrite : i.writes = none) (wellFormed : i.wellFormed = true) (notReset : i ≠ .resetnLow)
    (h : exec i s = .next t) : ListSelKept s t := by
  match access : i.isAccess with
  | false => exact .of_port (exec_event_port noCommand access notReset h)
  | true =>
    cases i <;> simp only [Instr.commandBytes, Instr.writes, Instr.isAccess, reduceCtorEq]
      at noCommand noWrite access
    case timeLoRead =>
      cases h
      exact hostRead_keeps_listSel (readReg_keeps_listSel .timeLo s)
    case winDataRead =>
      cases h
      exact hostRead_keeps_listSel (readReg_keeps_listSel .winData s)
    case unmappedRegisterRead a =>
      cases h
      exact hostRead_keeps_listSel (readOffset_keeps_listSel a s)
    case registerWrite a w =>
      cases h
      refine hostWrite_keeps (.refl s) fun _ => ?_
      rw [writeOffset_of_wellFormed wellFormed]
      rfl

/-- Every well-formed row but LIST_SEL's own write and a low RESETn leaves LIST_SEL as it is (R46). -/
theorem exec_keeps_listSel {i : Instr} {s t : State} (wellFormed : i.wellFormed = true)
    (notReset : i ≠ .resetnLow) (notListSel : ∀ w, i ≠ .listSelWrite w) (h : exec i s = .next t) :
    ListSelKept s t := by
  match command : i.commandBytes, write : i.writes with
  | some (c, a), _ =>
    rw [exec_command command] at h
    cases h
    exact takeCommand_keeps (.refl s) (fun _ _ kept => kept) fun _ t ok =>
      .of_port (accepted_of_ok ok).port_eq
  | none, some (r, w) =>
    have otherRegister : r ≠ .listSel := fun same => notListSel w (writes_listSel (same ▸ write))
    rw [exec_write write] at h
    cases h
    exact hostWrite_keeps (.refl s) fun _ =>
      writeReg_keeps_listSel (writes_ne_command write) otherRegister w s
  | none, none => exact exec_other_keeps_listSel command write wellFormed notReset h

/-- Settles O28: the writes and reads go by the register, and `exec_keeps_listSel` says that no other row
changes LIST_SEL. -/
theorem listSelAndListInfo : Obligations.ListSelAndListInfo := by
  unfold Obligations.ListSelAndListInfo
  refine ⟨fun s w served => ⟨fun inside => ?taken, fun outside => ?ignored, ?readOnly⟩, fun s => ?shown,
    fun s => ⟨_, rfl, rfl⟩, fun c s t wellFormed notReset notListSel h =>
      exec_keeps_listSel wellFormed notReset notListSel h⟩
  case taken => exact exec_write_served rfl served (writeListSel_of_le inside s)
  case ignored => exact exec_write_served rfl served (writeListSel_of_lt outside s)
  case readOnly =>
    show Host.Outcome.next (hostWrite (writeOffset 0x2B#6 w) s) = _
    rw [hostWrite_served served, writeOffset_of_wellFormed rfl]
  case shown =>
    exact ⟨word_eq_append (k := 10) _, listInfo_active s, listInfo_pendingSwitch s, listInfo_activeLen s,
      listInfo_shadowLen s⟩

end Sys2Proof.Machine
end

section
/-! R84: TAKE_INPUTS, and a command that is not taken. -/

namespace Sys2Proof.Machine

/-! ## A command that is not taken -/

/-- The Host Port takes nothing in RESETTING (R159). -/
theorem not_serves_of_resetting {s : State} (resetting : s.sched.ctrl = .resetting) : ¬ s.serves :=
  fun ⟨_, outside⟩ => outside resetting

/-- A command that the Host Port does not take leaves nothing, no answer either (R157, R159). -/
theorem exec_command_unserved {i : Instr} {c a : Byte} {s : State}
    (bytes : i.commandBytes = some (c, a)) (unserved : ¬ s.serves) : exec i s = .next s := by
  rw [exec_command bytes, takeCommand_unserved unserved]

/-! ## The two cases of TAKE_INPUTS -/

theorem takeInputsBody_fresh {s : State} (fresh : s.images.inputFresh = true) :
    takeInputsBody s = .ok (takeReady s) :=
  if_pos fresh

theorem takeInputsBody_stale {s : State} (stale : s.images.inputFresh = false) :
    takeInputsBody s = .error .noNewImage :=
  if_neg (ne_true_of_eq_false stale)

/-- Settles O19: in RESETTING the command is not served; else `takeInputsBody` by the input-fresh flag, where
`takeReady` is the exchange of READY and HELD. -/
theorem takeInputsExchangesReadyAndHeld : Obligations.TakeInputsExchangesReadyAndHeld := by
  unfold Obligations.TakeInputsExchangesReadyAndHeld
  intro s arg
  refine ⟨fun _ resetting => ?notTaken, fun served => ⟨fun fresh => ?exchanged, fun stale => ?refused⟩⟩
  case notTaken => exact exec_command_unserved rfl (not_serves_of_resetting resetting)
  case exchanged => exact exec_command_accepted rfl served (takeInputsBody_fresh fresh)
  case refused => exact exec_command_refused rfl served (takeInputsBody_stale stale)

end Sys2Proof.Machine
end

section
/-! R152: LCNT_SEL and LCNT_VAL, and what a row can do to the Host Port. -/

namespace Sys2Proof.Machine

/-! ## What a row can do to the Host Port -/

/-- The Host Port after a write of a register other than COMMAND: a selection is changed by its own register
alone, and WIN_ADDR by its own and by WIN_DATA (R184). -/
inductive PortWritten (p : HostPort) : Reg → HostPort → Prop
  | same (r : Reg) : PortWritten p r p
  | stnSel (i : Slot) : PortWritten p .stnSel { p with stnSel := i }
  | listSel (n : BitVec 6) : PortWritten p .listSel { p with listSel := n }
  | lcntSel (n : BitVec 4) : PortWritten p .lcntSel { p with lcntSel := n }
  | winAddr (a : BitVec 12) : PortWritten p .winAddr { p with winAddr := a }
  | advanced (a : BitVec 12) : PortWritten p .winData { p with winAddr := a }

theorem PortWritten.of_port {p q : HostPort} {r : Reg} (h : q = p) : PortWritten p r q :=
  h ▸ .same r

/-- A write judged by its word leaves the Host Port where the word is refused. -/
theorem portWritten_takeWord {α : Type} {v : Option α} {f : α → State → State} {r : Reg} {s : State}
    (taken : ∀ x, PortWritten s.port r (f x s).port) : PortWritten s.port r (takeWord v f s).port :=
  takeWord_keeps (P := fun t => PortWritten s.port r t.port) (.same r) fun x _ => taken x

theorem portWritten_writeReg {r : Reg} (notCommand : r ≠ .command) (w : Word) (s : State) :
    PortWritten s.port r (writeReg r w s).port := by
  cases r
  case command => exact absurd rfl notCommand
  case stnSel => exact portWritten_takeWord fun i => .stnSel i
  case listSel => exact portWritten_takeWord fun n => .listSel n
  case lcntSel => exact portWritten_takeWord fun n => .lcntSel n
  case winAddr =>
    show PortWritten s.port _ (writeWindowAddress w s).port
    unfold writeWindowAddress
    split
    · exact .winAddr _
    · exact .same _
  case winData =>
    have port : (writeReg .winData w s).port = { s.port with winAddr := s.port.winAddr + 2 } := by
      simp [writeReg, writeWindow, advanceWindow]
    rw [port]
    exact .advanced _
  all_goals exact .of_port (by simp [writeReg])

/-- A property of the Host Port that answers and reads leave alone: it does not look at COMMAND and RESULT,
the word on the bus, the time snapshot or WIN_ADDR. -/
structure PortKeeps (P : HostPort → Prop) : Prop where
  answer : ∀ p w c r, P p → P { p with command := w, resultCommand := c, resultCode := r }
  dataOut : ∀ p w, P p → P { p with dataOut := w }
  snapshot : ∀ p w, P p → P { p with timeSnapshot := w }
  window : ∀ p a, P p → P { p with winAddr := a }

section
variable {P : HostPort → Prop} {i : Instr} {s t : State}

theorem readReg_keeps_port (keeps : PortKeeps P) (held : P s.port) (r : Reg) :
    P (readReg r s).2.port := by
  rcases readReg_cases r s with same | snapshot | advanced | ignored
  · rwa [same]
  · rw [snapshot]
    exact keeps.snapshot _ _ held
  · rw [advanced]
    exact keeps.window _ _ held
  · rw [ignored]
    exact keeps.window _ _ held

theorem readOffset_keeps_port (keeps : PortKeeps P) (held : P s.port) (a : BitVec 6) :
    P (readOffset a s).2.port := by
  unfold readOffset
  split
  · exact readReg_keeps_port keeps held _
  · exact held

theorem hostRead_keeps_port (keeps : PortKeeps P) (held : P s.port) {f : State → Word × State}
    (read : P (f s).2.port) : P (hostRead f s).port :=
  hostRead_keeps (P := fun t => P t.port) held (fun _ _ => keeps.dataOut _ _) fun _ => read

theorem exec_command_keeps_port (keeps : PortKeeps P) (held : P s.port) {c a : Byte}
    (bytes : i.commandBytes = some (c, a)) (h : exec i s = .next t) : P t.port := by
  rw [exec_command bytes] at h
  cases h
  refine takeCommand_keeps (P := fun t => P t.port) held (fun _ _ => keeps.answer _ _ _ _) ?_
  intro _ t ok
  rwa [(accepted_of_ok ok).port_eq]

/-- The rows that are no write of a register of their own: reads, writes that are ignored, and events. -/
theorem exec_other_keeps_port (keeps : PortKeeps P) (held : P s.port)
    (noCommand : i.commandBytes = none) (noWrite : i.writes = none) (wellFormed : i.wellFormed = true)
    (notReset : i ≠ .resetnLow) (h : exec i s = .next t) : P t.port := by
  match access : i.isAccess with
  | false => rwa [exec_event_port noCommand access notReset h]
  | true =>
    cases i <;> simp only [Instr.commandBytes, Instr.writes, Instr.isAccess, reduceCtorEq]
      at noCommand noWrite access
    case timeLoRead =>
      cases h
      exact hostRead_keeps_port keeps held (readReg_keeps_port keeps held .timeLo)
    case winDataRead =>
      cases h
      exact hostRead_keeps_port keeps held (readReg_keeps_port keeps held .winData)
    case unmappedRegisterRead a =>
      cases h
      exact hostRead_keeps_port keeps held (readOffset_keeps_port keeps held a)
    case registerWrite a w =>
      cases h
      refine hostWrite_keeps (P := fun t => P t.port) held fun _ => ?_
      rwa [writeOffset_of_wellFormed wellFormed]

/-- Such a property is kept by every well-formed row but a low RESETn, if the row's own register write keeps
it. -/
theorem exec_keeps_port (keeps : PortKeeps P) (held : P s.port) (wellFormed : i.wellFormed = true)
    (notReset : i ≠ .resetnLow)
    (written : ∀ r w p, i.writes = some (r, w) → PortWritten s.port r p → P p)
    (h : exec i s = .next t) : P t.port := by
  match command : i.commandBytes, write : i.writes with
  | some (c, a), _ => exact exec_command_keeps_port keeps held command h
  | none, some (r, w) =>
    rw [exec_write write] at h
    cases h
    exact hostWrite_keeps (P := fun t => P t.port) held fun _ =>
      written r w _ write (portWritten_writeReg (writes_ne_command write) w s)
  | none, none => exact exec_other_keeps_port keeps held command write wellFormed notReset h

end

/-! ## LCNT_SEL -/

theorem counterOfWord_of_le {w : Word} (h : w.toNat ≤ 12) : counterOfWord w = some (w.extractLsb' 0 4) :=
  if_pos h

theorem counterOfWord_of_lt {w : Word} (h : 12 < w.toNat) : counterOfWord w = none :=
  if_neg (by omega)

theorem writeLcntSel_of_le {w : Word} (h : w.toNat ≤ 12) (s : State) :
    writeLcntSel w s = { s with port.lcntSel := w.extractLsb' 0 4 } := by
  rw [writeLcntSel, counterOfWord_of_le h, takeWord_some]

theorem writeLcntSel_of_lt {w : Word} (h : 12 < w.toNat) (s : State) :
    writeLcntSel w s = s.withAccess := by
  rw [writeLcntSel, counterOfWord_of_lt h, takeWord_none]

/-- Only LCNT_SEL_WRITE is the row of LCNT_SEL. -/
theorem writes_lcntSel {i : Instr} {w : Word} (h : i.writes = some (.lcntSel, w)) :
    i = .lcntSelWrite w := by
  cases i <;> simp_all [Instr.writes]

theorem portKeeps_lcntSel (n : BitVec 4) : PortKeeps fun p => p.lcntSel = n :=
  ⟨fun _ _ _ _ h => h, fun _ _ h => h, fun _ _ h => h, fun _ _ h => h⟩

/-- Every well-formed row but LCNT_SEL's own write and a low RESETn leaves LCNT_SEL as it is (R152). -/
theorem exec_keeps_lcntSel {i : Instr} {s t : State} (wellFormed : i.wellFormed = true)
    (notReset : i ≠ .resetnLow) (notLcntSel : ∀ w, i ≠ .lcntSelWrite w) (h : exec i s = .next t) :
    t.port.lcntSel = s.port.lcntSel := by
  refine exec_keeps_port (portKeeps_lcntSel s.port.lcntSel) rfl wellFormed notReset ?_ h
  intro r w p write change
  cases change
  case lcntSel n => exact absurd (writes_lcntSel write) (notLcntSel w)
  all_goals rfl

/-! ## LCNT_VAL -/

/-- A selection below 13 reads its own line counter. -/
theorem regWord_lcntVal {s : State} (h : s.port.lcntSel.toNat < 13) :
    s.regWord .lcntVal = s.line.counters[s.port.lcntSel.toNat] := by
  show s.line.counters.toList.getD s.port.lcntSel.toNat 0 = _
  have inside : s.port.lcntSel.toNat < s.line.counters.toList.length := by simpa using h
  rw [List.getD_eq_getElem _ _ inside, Vector.getElem_toList]

/-- Settles O32: the writes and reads go by the register, and `exec_keeps_lcntSel` says that no other row
changes LCNT_SEL. -/
theorem lcntSelSelectsACounter : Obligations.LcntSelSelectsACounter := by
  unfold Obligations.LcntSelSelectsACounter
  refine ⟨fun s w served => ⟨fun inside => ?taken, fun outside => ?ignored, ?readOnly⟩, fun s => ?shown,
    fun s => ⟨_, rfl, rfl⟩, fun c s t wellFormed notReset notLcntSel h =>
      exec_keeps_lcntSel wellFormed notReset notLcntSel h⟩
  case taken => exact exec_write_served rfl served (writeLcntSel_of_le inside s)
  case ignored => exact exec_write_served rfl served (writeLcntSel_of_lt outside s)
  case readOnly =>
    show Host.Outcome.next (hostWrite (writeOffset 0x39#6 w) s) = _
    rw [hostWrite_served served, writeOffset_of_wellFormed rfl]
  case shown => exact ⟨word_eq_append (k := 12) _, fun selected => regWord_lcntVal selected, rfl⟩

end Sys2Proof.Machine
end

section
/-! R167: CLEAR_FAULT, and the FAULT source. -/

namespace Sys2Proof.Machine

/-- The FAULT source stands at bit 2 and is active in FAULTED alone (R176, R177). -/
theorem getLsbD_intStatus_fault (s : State) :
    s.intStatus.getLsbD 2 = (s.sched.ctrl == .faulted) := by
  unfold State.intStatus
  rw [BitVec.getLsbD_append, if_neg (by decide)]
  exact getLsbD_append_ofBool _ _ _

theorem clearFaultBody_faulted {s : State} (faulted : s.sched.ctrl = .faulted) :
    clearFaultBody s = .ok { s with sched.ctrl := .config } :=
  whenState_of (beq_iff_eq.mpr faulted)

theorem clearFaultBody_wrong {s : State} (other : s.sched.ctrl ≠ .faulted) :
    clearFaultBody s = .error .wrongState :=
  whenState_wrong (beq_false_of_ne other)

theorem startBody_wrong {s : State} (other : s.sched.ctrl ≠ .config) :
    startBody s = .error .wrongState :=
  whenState_wrong (beq_false_of_ne other)

theorem writeConfig_outside {s : State} (other : s.sched.ctrl ≠ .config) (r : ConfigReg) (w : Word) :
    writeConfig r w s = s.withAccess :=
  if_neg other

/-- Settles O12: `clearFaultBody` and `startBody` by the controller state, and bit 2 of INT_STATUS by
`getLsbD_intStatus_fault`. -/
theorem clearFaultEndsFaulted : Obligations.ClearFaultEndsFaulted := by
  unfold Obligations.ClearFaultEndsFaulted
  intro s arg served
  refine ⟨fun faulted => ?inFaulted, fun elsewhere => ?refused⟩
  case inFaulted =>
    have notConfig : s.sched.ctrl ≠ .config := by simp [faulted]
    exact ⟨exec_command_accepted rfl served (clearFaultBody_faulted faulted),
      getLsbD_intStatus_fault _,
      exec_command_refused rfl served (startBody_wrong notConfig),
      fun r w => exec_write_served rfl served (writeConfig_outside notConfig r w)⟩
  case refused =>
    have notFaulted : s.sched.ctrl ≠ .faulted := by
      rcases elsewhere with config | running | stopping
      · simp [config]
      · simp [running]
      · simp [stopping]
    exact exec_command_refused rfl served (clearFaultBody_wrong notFaulted)

end Sys2Proof.Machine
end

section
/-! R159: the part in RESETTING, which takes no access and asks for no attention. -/

namespace Sys2Proof

/-- The rows that do something only on a line that is not OFF or with an armed Time Base: the line's own
and the three that deliver cycle starts (R123, R135). -/
def Instr.needsRun : Instr → Bool
  | .syncinEdge _ => true
  | .cycleTimerExpiry => true
  | .syncWindowExpiry => true
  | .rxdCharacterArrival => true
  | .startBitMiddleSample _ => true
  | .characterCompletion _ => true
  | .echoCheck _ => true
  | .responseWindowExpiry => true
  | .charGapExpiry => true
  | .openingGuardEnd => true
  | .settleEnd => true
  | .closingGuardEnd => true
  | .busyLimitExpiry => true
  | _ => false

end Sys2Proof

namespace Sys2Proof.Machine

/-! ## What RESETTING holds at rest -/

/-- What the reset law gives of a part in RESETTING: the line OFF, the Time Base disarmed, no phase, and
nothing that an interrupt source could rest on. -/
structure State.AtRest (s : State) : Prop where
  engine_off : s.line.engine = .off
  rx_none : s.line.rx = none
  disarmed : s.tb.armed = false
  phase_none : s.sched.phase = .none
  completions_nil : s.reqs.completions = []
  events_nil : s.events.queue = []
  cycle_clear : s.events.cycleFlag = false
  inReady_clear : s.events.inReadyFlag = false
  outTaken_clear : s.events.outTakenFlag = false
  access_clear : s.events.accessFlag = false

theorem State.ResetHeld.atRest {s : State} (held : s.ResetHeld) (resetting : s.sched.ctrl = .resetting) :
    s.AtRest := by
  obtain ⟨inResetting, -, -⟩ := held
  obtain ⟨engine, rx, armed, phase, -, -, completions, events, -, cycle, inReady, outTaken, access, -⟩ :=
    inResetting resetting
  exact ⟨engine, rx, armed, phase, completions, events, cycle, inReady, outTaken, access⟩

/-- A clear in progress means that RESETn is high (R157, R158). -/
theorem State.ResetHeld.resetLow_of_clear {s : State} (held : s.ResetHeld) {n : Nat}
    (clear : s.clear = some n) : s.resetLow = false := by
  obtain ⟨-, inProgress, -⟩ := held
  have running : s.clear.isSome = true := by rw [clear]; rfl
  exact (inProgress.mp running).2

/-- No source is active in RESETTING: both queues are empty, the latched flags clear, and it is not
FAULTED (R159, R176). -/
theorem intStatus_of_resetting {s : State} (held : s.ResetHeld)
    (resetting : s.sched.ctrl = .resetting) : s.intStatus = 0 := by
  have rest := held.atRest resetting
  unfold State.intStatus
  rw [rest.access_clear, rest.outTaken_clear, rest.inReady_clear, rest.cycle_clear, resetting,
    rest.completions_nil, rest.events_nil]
  rfl

theorem intnLow_of_intStatus_zero {s : State} (inactive : s.intStatus = 0) : s.intnLow = false := by
  simp [State.intnLow, inactive]

/-! ## Accesses that are not served -/

theorem exec_read {i : Instr} (read : i.isRead = true) (s : State) :
    ∃ f, exec i s = .next (hostRead f s) := by
  cases i <;> simp only [Instr.isRead, reduceCtorEq] at read
  all_goals exact ⟨_, rfl⟩

theorem exec_writeAccess {i : Instr} (access : i.isAccess = true) (noRead : i.isRead = false)
    (s : State) : ∃ f, exec i s = .next (hostWrite f s) := by
  cases i <;> simp only [Instr.isAccess, Instr.isRead, reduceCtorEq] at access noRead
  all_goals exact ⟨_, rfl⟩

/-- A read in RESETTING drives 0 and does nothing else (R159). -/
theorem exec_read_resetting {i : Instr} {s : State} (read : i.isRead = true)
    (high : s.resetLow = false) (resetting : s.sched.ctrl = .resetting) :
    exec i s = .next (s.driving 0) := by
  obtain ⟨f, row⟩ := exec_read read s
  rw [row, hostRead_unserved (not_serves_of_resetting resetting), if_neg (ne_true_of_eq_false high)]
  rfl

/-- A write that is not served leaves nothing, ACCESS neither (R157, R159). -/
theorem exec_write_unserved {i : Instr} {s : State} (access : i.isAccess = true)
    (noRead : i.isRead = false) (unserved : ¬ s.serves) : exec i s = .next s := by
  obtain ⟨f, row⟩ := exec_writeAccess access noRead s
  rw [row, hostWrite_unserved unserved]

/-- Settles O8: no access is served in RESETTING, and the reset law leaves no source active. -/
theorem resettingTakesNoAccess : Obligations.ResettingTakesNoAccess := by
  unfold Obligations.ResettingTakesNoAccess
  intro s held high resetting
  have unserved : ¬ s.serves := not_serves_of_resetting resetting
  have inactive : s.intStatus = 0 := intStatus_of_resetting held resetting
  refine ⟨fun i read => ?reads, fun i command => ?commands, fun i access noRead => ?writes,
    inactive, intnLow_of_intStatus_zero inactive⟩
  case reads => exact exec_read_resetting read high resetting
  case commands =>
    obtain ⟨_, bytes⟩ := Option.isSome_iff_exists.mp command
    exact exec_command_unserved bytes unserved
  case writes => exact exec_write_unserved access noRead unserved

end Sys2Proof.Machine
end

section
/-! R158: the buffer memory clear, and what a step from RESETTING can do. -/

namespace Sys2Proof.Machine

/-! ## The clear's own row and its clock -/

/-- The clear's end is due from its 6400th period on (R158). -/
theorem clearDue_eq {s : State} {n : Nat} (resetting : s.sched.ctrl = .resetting)
    (clear : s.clear = some n) : s.clearDue = decide (6400 ≤ n) := by
  unfold State.clearDue
  rw [resetting, clear]
  rfl

theorem exec_bufferClearEnd_early {s : State} (notDue : s.clearDue = false) :
    exec .bufferClearEnd s = .next s :=
  congrArg Host.Outcome.next (if_neg (ne_true_of_eq_false notDue))

theorem exec_bufferClearEnd_due {s : State} (due : s.clearDue = true) :
    exec .bufferClearEnd s = .next (clearEnds s) :=
  congrArg Host.Outcome.next (if_pos due)

theorem exec_resetnRelease_low {s : State} (low : s.resetLow = true) :
    exec .resetnRelease s = .next { s with resetLow := false, clear := some 0 } :=
  congrArg Host.Outcome.next (if_pos low)

/-- Every CLKIN period with RESETn high advances a clear in progress by one, whether or not it steps
TIME. -/
theorem passClock_clear {s : State} (high : s.resetLow = false) :
    (passClock s).clear = s.clear.map (· + 1) := by
  unfold passClock
  rw [high, if_neg (by decide)]
  split
  · rfl
  · rfl

/-! ## What a part at rest can do -/

/-- The line is OFF with no character in it and the Time Base is disarmed, so none of these rows can
come. -/
theorem exec_needsRun_atRest {i : Instr} {s : State} (needsRun : i.needsRun = true) (rest : s.AtRest) :
    exec i s = .next s := by
  have off := rest.engine_off
  have rx := rest.rx_none
  have disarmed := rest.disarmed
  cases i <;> simp only [Instr.needsRun, reduceCtorEq] at needsRun
  case syncinEdge e => simp [exec, execSyncinEdge, disarmed]
  case cycleTimerExpiry => simp [exec, execCycleTimerExpiry, State.cycleTimerDue, disarmed]
  case syncWindowExpiry => simp [exec, execSyncWindowExpiry, State.syncWindowDue, disarmed]
  case rxdCharacterArrival => simp [exec, execRxdCharacterArrival, State.listening, off]
  case startBitMiddleSample level => simp [exec, execStartBitMiddleSample, State.toSample, rx]
  case characterCompletion c => simp [exec, execCharacterCompletion, State.toComplete, rx]
  case echoCheck e => simp [exec, execEchoCheck, State.sentPiece, off]
  case responseWindowExpiry => simp [exec, execResponseWindowExpiry, State.windowDue, off]
  case charGapExpiry => simp [exec, execCharGapExpiry, State.gapDue, off]
  case openingGuardEnd => simp [exec, execOpeningGuardEnd, State.openingPiece, off]
  case settleEnd => simp [exec, execSettleEnd, State.settleDue, off]
  case closingGuardEnd => simp [exec, execClosingGuardEnd, State.closingPiece, off]
  case busyLimitExpiry => simp [exec, execBusyLimitExpiry, State.busyDue, off]

/-- What one row can make of a part at rest that serves no access: reset and the clear go their way,
time passes, a pulse ends, a read drives 0, and no more. -/
inductive RestingStep (s : State) : State → Prop
  | same : RestingStep s s
  | drivesZero : RestingStep s (s.driving 0)
  | resetLow : RestingStep s { State.powerOn with pending := s.pending, freeCount := s.freeCount }
  | release : RestingStep s { s with resetLow := false, clear := some 0 }
  | clearEnd : RestingStep s (clearEnds s)
  | tick : RestingStep s (passMicrosecond s)
  | pulseEnd : RestingStep s { s with tb.syncout := none }

/-- The rows that are no access and no command. -/
theorem restingStep_of_event {i : Instr} {s t : State} (rest : s.AtRest)
    (noCommand : i.commandBytes = none) (noAccess : i.isAccess = false) (h : exec i s = .next t) :
    RestingStep s t := by
  match needsRun : i.needsRun with
  | true =>
    rw [exec_needsRun_atRest needsRun rest] at h
    cases h
    exact .same
  | false =>
    cases i <;> simp only [Instr.commandBytes, Instr.isAccess, Instr.needsRun, reduceCtorEq]
      at noCommand noAccess needsRun
    case resetnLow =>
      cases h
      exact .resetLow
    case resetnRelease =>
      cases h
      split
      · exact .release
      · exact .same
    case bufferClearEnd =>
      cases h
      split
      · exact .clearEnd
      · exact .same
    case timeTick =>
      cases h
      exact .tick
    case syncoutPulseEnd =>
      cases h
      split
      · exact .pulseEnd
      · exact .same

theorem restingStep_of_exec {i : Instr} {s t : State} (rest : s.AtRest) (unserved : ¬ s.serves)
    (h : exec i s = .next t) : RestingStep s t := by
  match command : i.commandBytes, access : i.isAccess, read : i.isRead with
  | some _, _, _ =>
    rw [exec_command_unserved command unserved] at h
    cases h
    exact .same
  | none, true, false =>
    rw [exec_write_unserved access read unserved] at h
    cases h
    exact .same
  | none, _, true =>
    obtain ⟨f, row⟩ := exec_read read s
    rw [row, hostRead_unserved unserved] at h
    cases h
    split
    · exact .same
    · exact .drivesZero
  | none, false, false => exact restingStep_of_event rest command access h

/-! ## RESETTING ends in CONFIG -/

/-- RESETTING, or the CONFIG that the end of the clear leaves (R158). -/
def State.ResettingOrConfig (s : State) : Prop := s.sched.ctrl = .resetting ∨ s.sched.ctrl = .config

/-- Of all that a part at rest can do, the clear's end alone leaves RESETTING. -/
theorem RestingStep.resettingOrConfig {s t : State} (h : RestingStep s t)
    (resetting : s.sched.ctrl = .resetting) : t.ResettingOrConfig := by
  cases h
  case clearEnd => exact .inr rfl
  case resetLow => exact .inl rfl
  case tick => exact .inl (by simpa using resetting)
  all_goals exact .inl resetting

theorem exec_resetting {i : Instr} {s t : State} (held : s.ResetHeld)
    (resetting : s.sched.ctrl = .resetting) (h : exec i s = .next t) : t.ResettingOrConfig :=
  (restingStep_of_exec (held.atRest resetting) (not_serves_of_resetting resetting) h).resettingOrConfig
    resetting

/-- The reset law reads neither the queue of commands nor the count of free choices, so a step is one row
from RESETTING, or one CLKIN period. -/
theorem step_resetting {s t : State} (held : s.ResetHeld) (resetting : s.sched.ctrl = .resetting)
    (h : step s = .next t) : t.ResettingOrConfig := by
  match waiting : s.pending with
  | c :: q =>
    rw [step_cons waiting] at h
    exact exec_resetting (s := { s with pending := q }) held resetting h
  | [] =>
    rw [step_nil waiting] at h
    rcases idle_cases s with ⟨-, clock⟩ | ⟨c, -, one⟩ | ⟨c, -, chosen⟩
    · rw [clock] at h
      cases h
      exact .inl (by simpa using resetting)
    · rw [one] at h
      exact exec_resetting held resetting h
    · rw [chosen] at h
      exact exec_resetting (s := { s with freeCount := s.freeCount + 1 }) held resetting h

/-- Settles O7: the clear's end by its count, what it leaves by the reset law, and the end of RESETTING by
`step_resetting`. -/
theorem bufferClearEndsResetting : Obligations.BufferClearEndsResetting := by
  unfold Obligations.BufferClearEndsResetting
  refine ⟨fun s low => exec_resetnRelease_low low,
    fun s arg served => ⟨_, exec_command_accepted rfl served rfl, rfl, rfl⟩,
    fun s n held resetting clear => ⟨fun early => ?early, ?advances, fun due => ?ends, ?abandoned,
      fun t h => step_resetting held resetting h⟩⟩
  case early =>
    exact exec_bufferClearEnd_early ((clearDue_eq resetting clear).trans (decide_eq_false (by omega)))
  case advances => rw [passClock_clear (held.resetLow_of_clear clear), clear, Option.map_some]
  case ends =>
    have rest := held.atRest resetting
    exact ⟨clearEnds s,
      exec_bufferClearEnd_due ((clearDue_eq resetting clear).trans (decide_eq_true due)), rfl,
      rest.engine_off, rest.disarmed, rest.phase_none, rest.completions_nil, rest.events_nil⟩
  case abandoned => exact ⟨_, rfl, rfl, rfl⟩

end Sys2Proof.Machine
end

section
/-! R174: POP_EVENT and CLEAR_EVENT_LOSS. -/

namespace Sys2Proof.Machine

theorem popEventBody_nil {s : State} (empty : s.events.queue = []) :
    popEventBody s = .error .empty := by
  simp only [popEventBody, empty]

theorem popEventBody_cons {s : State} {e : EventRecord} {es : List EventRecord}
    (head : s.events.queue = e :: es) : popEventBody s = .ok { s with events.queue := es } := by
  simp only [popEventBody, head]

/-- Settles O23: in RESETTING no command is served; else `popEventBody` by the event queue, and
`clearEventLossBody`, which has no check of its own. -/
theorem eventQueueCommands : Obligations.EventQueueCommands := by
  unfold Obligations.EventQueueCommands
  intro s arg
  refine ⟨fun _ resetting => ?notTaken,
    fun served => ⟨fun empty => ?refused, fun e es head => ?popped, ?cleared⟩⟩
  case notTaken =>
    have unserved : ¬ s.serves := not_serves_of_resetting resetting
    exact ⟨exec_command_unserved rfl unserved, exec_command_unserved rfl unserved⟩
  case refused => exact exec_command_refused rfl served (popEventBody_nil empty)
  case popped => exact exec_command_accepted rfl served (popEventBody_cons head)
  case cleared =>
    have unchecked : clearEventLossBody s = .ok { s with events.lossCount := 0 } := rfl
    exact exec_command_accepted rfl served unchecked

end Sys2Proof.Machine
end

section
/-! R177 and R178: the seven interrupt sources, the writes of INT_STATUS and INT_ENABLE, and INTn. -/

namespace Sys2Proof.Machine

/-! ## The positions of the sources -/

theorem getLsbD_append_ofBool_zero {n : Nat} (x : BitVec n) (p : Bool) :
    (x ++ BitVec.ofBool p).getLsbD 0 = p := by
  rw [BitVec.getLsbD_append, if_pos Nat.one_pos, BitVec.getLsbD_ofBool, decide_eq_true rfl,
    Bool.true_and]

theorem getLsbD_append_ofBool_succ {n : Nat} (x : BitVec n) (p : Bool) (k : Nat) :
    (x ++ BitVec.ofBool p).getLsbD (k + 1) = x.getLsbD k := by
  rw [BitVec.getLsbD_append, if_neg (by omega), Nat.add_sub_cancel]

/-- The seven sources, active or set, in the order of Table 9-3 (R176). -/
def State.sources (s : State) : List Bool :=
  [!s.events.queue.isEmpty, !s.reqs.completions.isEmpty, s.sched.ctrl == .faulted, s.events.cycleFlag,
    s.events.inReadyFlag, s.events.outTakenFlag, s.events.accessFlag]

/-- INT_STATUS holds each source in its position, whether it is enabled or not. -/
theorem getLsbD_intStatus (s : State) (k : Nat) : s.intStatus.getLsbD k = s.sources.getD k false := by
  unfold State.intStatus
  match k with
  | 0 => exact getLsbD_append_ofBool_zero _ _
  | 1 | 2 | 3 | 4 | 5 =>
    iterate rw [getLsbD_append_ofBool_succ]
    exact getLsbD_append_ofBool_zero _ _
  | 6 =>
    iterate rw [getLsbD_append_ofBool_succ]
    exact BitVec.getLsbD_ofBool _ _
  | k + 7 => exact BitVec.getLsbD_of_ge _ _ (Nat.le_add_left 7 k)

/-- A register of seven positions reads them as they are. -/
theorem extractLsb_low_zeroExtend (x : BitVec 7) : (x.zeroExtend 16).extractLsb' 0 7 = x := by
  rw [word_eq_append (k := 9), BitVec.extractLsb'_append_eq_right]

/-- A register of seven positions reads 0 in positions 7 to 15. -/
theorem extractLsb_high_zeroExtend (x : BitVec 7) : (x.zeroExtend 16).extractLsb' 7 9 = 0 := by
  rw [word_eq_append (k := 9), BitVec.extractLsb'_append_eq_left]
  rfl

theorem getLsbD_regWord_intStatus (s : State) {k : Nat} (h : k < 7) :
    (s.regWord .intStatus).getLsbD k = s.sources.getD k false := by
  show (s.intStatus.zeroExtend (9 + 7)).getLsbD k = _
  rw [word_eq_append, BitVec.getLsbD_append, if_pos h, getLsbD_intStatus]

/-! ## The words of INT_STATUS and INT_ENABLE -/

/-- Positions 7 to 15 are 0 in the words below 2^7 alone. -/
theorem extract_seven_up_eq_zero_iff (w : Word) : w.extractLsb' 7 9 = 0 ↔ w.toNat < 128 := by
  rw [← BitVec.toNat_inj, BitVec.extractLsb'_toNat, Nat.shiftRight_eq_div_pow]
  have bound : w.toNat < 65536 := w.isLt
  show w.toNat / 128 % 512 = 0 ↔ _
  omega

theorem sourcesOfWord_of_clear {w : Word} (clear : w.extractLsb' 7 9 = 0) :
    sourcesOfWord w = some (w.extractLsb' 0 7) :=
  if_pos ((extract_seven_up_eq_zero_iff w).mp clear)

theorem sourcesOfWord_of_set {w : Word} (raised : w.extractLsb' 7 9 ≠ 0) : sourcesOfWord w = none :=
  if_neg fun below => raised ((extract_seven_up_eq_zero_iff w).mpr below)

/-! ## The write of INT_STATUS -/

/-- The positions 3 to 6 of the written word name the four latched flags (Table 9-3). -/
theorem clearLatched_low (w : Word) (s : State) :
    clearLatched (w.extractLsb' 0 7) s = { s with
      events.cycleFlag := s.events.cycleFlag && !w.getLsbD 3
      events.inReadyFlag := s.events.inReadyFlag && !w.getLsbD 4
      events.outTakenFlag := s.events.outTakenFlag && !w.getLsbD 5
      events.accessFlag := s.events.accessFlag && !w.getLsbD 6 } := by
  simp [clearLatched]

theorem writeIntStatus_of_clear {w : Word} (clear : w.extractLsb' 7 9 = 0) (s : State) :
    writeIntStatus w s = clearLatched (w.extractLsb' 0 7) s := by
  rw [writeIntStatus, sourcesOfWord_of_clear clear, takeWord_some]

theorem writeIntStatus_of_set {w : Word} (raised : w.extractLsb' 7 9 ≠ 0) (s : State) :
    writeIntStatus w s = s.withAccess := by
  rw [writeIntStatus, sourcesOfWord_of_set raised, takeWord_none]

/-- Settles O25: a read goes by the position of each source, a write by `sourcesOfWord`. -/
theorem intStatusReadsAndClears : Obligations.IntStatusReadsAndClears := by
  unfold Obligations.IntStatusReadsAndClears
  refine ⟨fun s => ?read, fun s w served => ⟨fun clear => ?cleared, fun raised => ?ignored⟩⟩
  case read =>
    have position {k : Nat} (h : k < 7) := getLsbD_regWord_intStatus s h
    exact ⟨position (k := 0) (by decide), position (k := 1) (by decide), position (k := 2) (by decide),
      position (k := 3) (by decide), position (k := 4) (by decide), position (k := 5) (by decide),
      position (k := 6) (by decide), extractLsb_high_zeroExtend _, rfl⟩
  case cleared =>
    rw [← clearLatched_low]
    exact exec_write_served rfl served (writeIntStatus_of_clear clear s)
  case ignored => exact exec_write_served rfl served (writeIntStatus_of_set raised s)

/-! ## INT_ENABLE and INTn -/

theorem writeIntEnable_of_clear {w : Word} (clear : w.extractLsb' 7 9 = 0) (s : State) :
    writeIntEnable w s = { s with events.intEnable := w.extractLsb' 0 7 } := by
  rw [writeIntEnable, sourcesOfWord_of_clear clear, takeWord_some]

theorem writeIntEnable_of_set {w : Word} (raised : w.extractLsb' 7 9 ≠ 0) (s : State) :
    writeIntEnable w s = s.withAccess := by
  rw [writeIntEnable, sourcesOfWord_of_set raised, takeWord_none]

theorem bitVec_and_ne_zero_iff {n : Nat} (x y : BitVec n) :
    x &&& y ≠ 0 ↔ ∃ k, k < n ∧ x.getLsbD k = true ∧ y.getLsbD k = true := by
  rw [Ne, BitVec.eq_of_getLsbD_eq_iff]
  simp

/-- With RESETn high, INTn is low exactly while a source is active or set, and enabled (R178). -/
theorem intnLow_iff_source_enabled {s : State} (high : s.resetLow = false) :
    s.intnLow = true ↔
      ∃ k, k < 7 ∧ s.intStatus.getLsbD k = true ∧ s.events.intEnable.getLsbD k = true := by
  rw [← bitVec_and_ne_zero_iff, State.intnLow, high, Bool.not_false, Bool.true_and, bne_iff_ne]

/-- Settles O26: a write goes by `sourcesOfWord`, a read by the register's width, and INTn by
`intnLow_iff_source_enabled`. -/
theorem intEnableStoresAndIntnFollows : Obligations.IntEnableStoresAndIntnFollows := by
  unfold Obligations.IntEnableStoresAndIntnFollows
  intro s w served
  refine ⟨fun clear => ?stored, fun raised => ?ignored, extractLsb_low_zeroExtend _,
    extractLsb_high_zeroExtend _, ?pin⟩
  case stored => exact exec_write_served rfl served (writeIntEnable_of_clear clear s)
  case ignored => exact exec_write_served rfl served (writeIntEnable_of_set raised s)
  case pin =>
    obtain ⟨high, _⟩ := served
    exact intnLow_iff_source_enabled high

end Sys2Proof.Machine
end

section
/-! R183: WIN_ADDR, the accesses that advance it, and what leaves it as it is. -/

namespace Sys2Proof.Machine

/-! ## The write of WIN_ADDR -/

/-- Bits 11:1 of a word, above a 0 (R183). -/
def evenAddress (w : Word) : BitVec 12 := w.extractLsb' 1 11 ++ 0#1

/-- Of a word below 0x1000 the even address drops bit 0 alone. -/
theorem evenAddress_toNat {w : Word} (h : w.toNat < 4096) :
    (evenAddress w).toNat = 2 * (w.toNat / 2) := by
  rw [evenAddress, BitVec.toNat_append, BitVec.extractLsb'_toNat, Nat.shiftRight_eq_div_pow]
  show (w.toNat / 2 % 2048) <<< 1 ||| 0 = _
  rw [Nat.or_zero, Nat.shiftLeft_eq]
  omega

theorem writeWindowAddress_of_lt {w : Word} (h : w.toNat < 4096) (s : State) :
    writeWindowAddress w s = { s with port.winAddr := evenAddress w } := by
  have taken : windowAddressOfWord w = some (evenAddress w) := if_pos h
  rw [writeWindowAddress, taken]

theorem writeWindowAddress_of_le {w : Word} (h : 4096 ≤ w.toNat) (s : State) :
    writeWindowAddress w s = s.withAccess := by
  have ignored : windowAddressOfWord w = none := if_neg (Nat.not_lt.mpr h)
  rw [writeWindowAddress, ignored]
  rfl

/-! ## The accesses of WIN_DATA -/

/-- A WIN_DATA read advances WIN_ADDR, mapped or not (R184). -/
theorem readWindow_port (s : State) :
    (readWindow s).2.port = { s.port with winAddr := s.port.winAddr + 2 } := by
  unfold readWindow
  dsimp only
  split <;> rfl

/-- A WIN_DATA write advances WIN_ADDR, stored or not (R184). -/
theorem writeWindow_port (w : Word) (s : State) :
    (writeWindow w s).port = { s.port with winAddr := s.port.winAddr + 2 } := by
  simp [writeWindow, advanceWindow]

/-- A served WIN_DATA read drives its word on the bus, with its side effects (R181, R184). -/
theorem exec_winDataRead_served {s : State} (served : s.serves) :
    exec .winDataRead s = .next ((readWindow s).2.driving (readWindow s).1) :=
  congrArg Host.Outcome.next (hostRead_served served readWindow)

/-! ## What leaves WIN_ADDR as it is -/

/-- A well-formed UNMAPPED_REGISTER_READ returns 0 and sets ACCESS (R182). -/
theorem readOffset_of_wellFormed {a : BitVec 6}
    (wellFormed : (Instr.unmappedRegisterRead a).wellFormed = true) (s : State) :
    readOffset a s = (0, s.withAccess) := by
  have offset : a ∈ unmappedOffsets := by simpa [Instr.wellFormed] using wellFormed
  fin_cases offset <;> rfl

/-- Only WIN_ADDR_WRITE is the row of WIN_ADDR. -/
theorem writes_winAddr {i : Instr} {w : Word} (h : i.writes = some (.winAddr, w)) :
    i = .winAddrWrite w := by
  cases i <;> simp_all [Instr.writes]

/-- Only WIN_DATA_WRITE is the row of a write of WIN_DATA. -/
theorem writes_winData {i : Instr} {w : Word} (h : i.writes = some (.winData, w)) :
    i = .winDataWrite w := by
  cases i <;> simp_all [Instr.writes]

/-- A register write that changes WIN_ADDR is one of WIN_ADDR or of WIN_DATA. -/
theorem PortWritten.winAddr_eq {p q : HostPort} {r : Reg} (h : PortWritten p r q)
    (notAddr : r ≠ .winAddr) (notData : r ≠ .winData) : q.winAddr = p.winAddr := by
  cases h
  case winAddr => exact absurd rfl notAddr
  case advanced => exact absurd rfl notData
  all_goals rfl

/-- WIN_ADDR stands in `t` as it stood in `s`. -/
def WinAddrKept (s t : State) : Prop := t.port.winAddr = s.port.winAddr

theorem WinAddrKept.refl (s : State) : WinAddrKept s s := rfl

theorem WinAddrKept.of_port {s t : State} (h : t.port = s.port) : WinAddrKept s t :=
  congrArg HostPort.winAddr h

theorem hostRead_keeps_winAddr {s : State} {f : State → Word × State} (h : WinAddrKept s (f s).2) :
    WinAddrKept s (hostRead f s) :=
  hostRead_keeps (.refl s) (fun _ _ kept => kept) fun _ => h

/-- The rows that are no write of a register of their own, but for a WIN_DATA read: the other reads, writes
that are ignored, and events. -/
theorem exec_other_keeps_winAddr {i : Instr} {s t : State} (noCommand : i.commandBytes = none)
    (noWrite : i.writes = none) (wellFormed : i.wellFormed = true) (notReset : i ≠ .resetnLow)
    (notRead : i ≠ .winDataRead) (h : exec i s = .next t) : WinAddrKept s t := by
  match access : i.isAccess with
  | false => exact .of_port (exec_event_port noCommand access notReset h)
  | true =>
    cases i <;> simp only [Instr.commandBytes, Instr.writes, Instr.isAccess, reduceCtorEq]
      at noCommand noWrite access
    case winDataRead => exact absurd rfl notRead
    case timeLoRead =>
      cases h
      exact hostRead_keeps_winAddr rfl
    case unmappedRegisterRead a =>
      cases h
      refine hostRead_keeps_winAddr ?_
      rw [readOffset_of_wellFormed wellFormed]
      rfl
    case registerWrite a w =>
      cases h
      refine hostWrite_keeps (.refl s) fun _ => ?_
      rw [writeOffset_of_wellFormed wellFormed]
      rfl

/-- Every well-formed row but WIN_ADDR's own write, the two accesses of WIN_DATA and a low RESETn leaves
WIN_ADDR as it is (R183). -/
theorem exec_keeps_winAddr {i : Instr} {s t : State} (wellFormed : i.wellFormed = true)
    (notReset : i ≠ .resetnLow) (notAddr : ∀ w, i ≠ .winAddrWrite w) (notRead : i ≠ .winDataRead)
    (notWrite : ∀ w, i ≠ .winDataWrite w) (h : exec i s = .next t) : WinAddrKept s t := by
  match command : i.commandBytes, write : i.writes with
  | some (c, a), _ =>
    rw [exec_command command] at h
    cases h
    exact takeCommand_keeps (.refl s) (fun _ _ kept => kept) fun _ t ok =>
      .of_port (accepted_of_ok ok).port_eq
  | none, some (r, w) =>
    have otherThanAddr : r ≠ .winAddr := fun same => notAddr w (writes_winAddr (same ▸ write))
    have otherThanData : r ≠ .winData := fun same => notWrite w (writes_winData (same ▸ write))
    rw [exec_write write] at h
    cases h
    exact hostWrite_keeps (.refl s) fun _ =>
      (portWritten_writeReg (writes_ne_command write) w s).winAddr_eq otherThanAddr otherThanData
  | none, none => exact exec_other_keeps_winAddr command write wellFormed notReset notRead h

/-- Settles O34: the write goes by `windowAddressOfWord`, the WIN_DATA accesses by the Host Port they leave,
and `exec_keeps_winAddr` says that no other row changes WIN_ADDR. -/
theorem winAddrHoldsAnEvenAddress : Obligations.WinAddrHoldsAnEvenAddress := by
  unfold Obligations.WinAddrHoldsAnEvenAddress
  refine ⟨fun s w served => ⟨fun inside => ?taken, fun outside => ?ignored⟩,
    fun s => word_eq_append (k := 4) _, fun s => ⟨_, rfl, rfl⟩,
    fun s served => ⟨?read, fun w => ?write⟩,
    fun c s t wellFormed notReset notAddr notRead notWrite h =>
      exec_keeps_winAddr wellFormed notReset notAddr notRead notWrite h⟩
  case taken =>
    exact ⟨_, exec_write_served rfl served (writeWindowAddress_of_lt inside s), rfl,
      evenAddress_toNat inside⟩
  case ignored => exact exec_write_served rfl served (writeWindowAddress_of_le outside s)
  case read =>
    exact ⟨_, exec_winDataRead_served served, congrArg HostPort.winAddr (readWindow_port s)⟩
  case write =>
    exact ⟨_, exec_write_served rfl served rfl, congrArg HostPort.winAddr (writeWindow_port w s)⟩

end Sys2Proof.Machine
end

section
/-! R186: the byte layouts of the four records. -/

namespace Sys2Proof.Machine

/-! ## The fields as bytes -/

/-- A field within a field of a word is a field of the word. -/
theorem extractLsb_within_extractLsb {n : Nat} (x : BitVec n) {a b c d : Nat} (inside : c + d ≤ b) :
    (x.extractLsb' a b).extractLsb' c d = x.extractLsb' (a + c) d := by
  ext k hk
  have below : c + k < b := by omega
  rw [BitVec.getElem_extractLsb', BitVec.getElem_extractLsb', BitVec.getLsbD_extractLsb',
    decide_eq_true below, Bool.true_and, Nat.add_assoc]

/-- A time's four bytes, least significant first. -/
theorem timeBytes_eq_extract (t : Time) :
    timeBytes t = [t.extractLsb' 0 8, t.extractLsb' 8 8, t.extractLsb' 16 8, t.extractLsb' 24 8] := by
  simp [timeBytes, wordBytes_eq_extract, timeLo, timeHi, extractLsb_within_extractLsb]

theorem flagsByte_eq_append (f : BitVec 4) : flagsByte f = 0#4 ++ f := word_eq_append (k := 4) f

theorem boolByte_eq_append (b : Bool) : boolByte b = 0#7 ++ BitVec.ofBool b := by
  cases b <;> rfl

/-! ## The layouts -/

/-- A record is its written bytes and then zeros up to its end (R186). -/
theorem getD_of_zero_filled {bytes whole : List Byte} {n : Nat}
    (filled : bytes ++ List.replicate n 0 = whole) (k : Nat) : bytes.getD k 0 = whole.getD k 0 := by
  rw [← filled]
  by_cases inside : k < bytes.length
  · rw [List.getD_append _ _ _ _ inside]
  · have beyond : bytes.length ≤ k := Nat.le_of_not_lt inside
    rw [List.getD_append_right _ _ _ _ beyond, List.getD_eq_default _ _ beyond,
      List.getD_eq_getElem?_getD, List.getElem?_getD_replicate_default_eq]

/-- Settles O37: each record's fields as bytes, with zeros up to the record's end, are its table's row. -/
theorem recordLayouts : Obligations.RecordLayouts := by
  unfold Obligations.RecordLayouts
  refine ⟨fun r => getD_of_zero_filled (n := 6) ?slot, fun r => getD_of_zero_filled (n := 12) ?summary,
    fun r => getD_of_zero_filled (n := 4) ?completion, fun r => getD_of_zero_filled (n := 6) ?event,
    ?codes⟩
  case slot =>
    rw [SlotStatus.bytes, timeBytes_eq_extract, wordBytes_eq_extract, flagsByte_eq_append]
    rfl
  case summary =>
    rw [CycleSummary.bytes, timeBytes_eq_extract, timeBytes_eq_extract, boolByte_eq_append,
      boolByte_eq_append]
    rfl
  case completion =>
    rw [Completion.headerBytes, timeBytes_eq_extract, flagsByte_eq_append,
      word_eq_append (k := 5) r.attemptsUsed]
    rfl
  case event =>
    rw [EventRecord.bytes, timeBytes_eq_extract]
    rfl
  case codes => decide

end Sys2Proof.Machine
end

section
/-! What the operations of a run keep, said once: a property that each elementary change of a run keeps is kept
by admission, by a taken cycle start, by the walk, by a report, by the line fault and by every row of the
line. `Keeps` says the same of a whole step; this is the layer below it. -/

namespace Sys2Proof.Machine

/-! ## Changes of one block -/

/-- The two states differ in the line block at most. -/
def LineOnly (s t : State) : Prop :=
  t.pending = s.pending ∧ t.freeCount = s.freeCount ∧ t.resetLow = s.resetLow ∧ t.clear = s.clear
    ∧ t.port = s.port ∧ t.tb = s.tb ∧ t.stations = s.stations ∧ t.lists = s.lists ∧ t.sched = s.sched
    ∧ t.images = s.images ∧ t.reqs = s.reqs ∧ t.events = s.events

theorem LineOnly.eq {s t : State} (h : LineOnly s t) : t = { s with line := t.line } := by
  obtain ⟨h1, h2, h3, h4, h5, h6, h7, h8, h9, h10, h11, h12⟩ := h
  rw [← h1, ← h2, ← h3, ← h4, ← h5, ← h6, ← h7, ← h8, ← h9, ← h10, ← h11, ← h12]

/-- What a law about the piece in hand can rest on: its work and its discard mark. -/
def Piece.claim (p : Piece) : Work × Bool := (p.work, p.discard)

/-- What a law about the piece in hand can rest on, for an engine that may hold none. -/
def LineEngine.claim (l : LineEngine) : Option (Work × Bool) := l.piece.map Piece.claim

/-- The station a CALL is for is enabled; the other works are for no station of the table. -/
def Work.Callable (w : Work) (s : State) : Prop :=
  ∀ i a k first stale payload, w = .exchange i a k first stale payload → (s.station i).enabled = true

/-- A change of the line block that no law about the piece in hand can tell: the piece is let go, stays with
its work and mark, or is a new one that may be handed over. -/
def PieceKept (s : State) (l : LineEngine) : Prop :=
  l.piece = none ∨ l.claim = s.line.claim ∨ ∃ p, l.piece = some p ∧ p.work.Callable s

/-- A change of a record in the fields that no law of the table speaks of: toggle, flags, counters, times and
the probe countdown. -/
def Station.SameLaws (r q : Station) : Prop :=
  q.address = r.address ∧ q.outLen = r.outLen ∧ q.outOffset = r.outOffset ∧ q.inLen = r.inLen
    ∧ q.inOffset = r.inOffset ∧ q.missLimit = r.missLimit ∧ q.probeInterval = r.probeInterval
    ∧ q.enabled = r.enabled ∧ q.health = r.health ∧ q.consecutiveMiss = r.consecutiveMiss

theorem Station.SameLaws.refl (r : Station) : r.SameLaws r :=
  ⟨rfl, rfl, rfl, rfl, rfl, rfl, rfl, rfl, rfl, rfl⟩

/-- The state whose engine has let its piece go, as a report leaves it (R138). -/
def released (s : State) : State := { s with line.engine := .idle, line.piece := none, line.busy := none }

/-- The elementary changes of a run, each with what is known where a run makes it. -/
structure RunKeeps (P : State → Prop) : Prop where
  notice : ∀ s c b n d, P s → P (notify c b n d s)
  flags : ∀ s e, e.queue = s.events.queue → P s → P { s with events := e }
  sched : ∀ s x, P s → P { s with sched := x }
  timeBase : ∀ s x, x.tracker = s.tb.tracker → x.missCount = s.tb.missCount → P s → P { s with tb := x }
  line : ∀ s l, PieceKept s l → P s → P { s with line := l }
  stations : ∀ s v, (∀ i : Slot, (s.station i).SameLaws v[i]) → P s → P { s with stations := v }
  lists : ∀ s x, x.list0 = s.lists.list0 → x.list1 = s.lists.list1 → P s → P { s with lists := x }
  commit : ∀ s, s.images.commitPending = true → P s →
    P { s with
      images.live := s.images.staged, images.staged := s.images.live, images.commitPending := false,
      images.freshCount := 0 }
  freshCount : ∀ s n, P s → P { s with images.freshCount := n }
  fill : ∀ s f, (∀ b : InBank, Memory.wf b.data → Memory.wf (f b).data) → P s → P (s.modifyFill f)
  publish : ∀ s, P s → P (publish s)
  exchange : ∀ s p i a k first stale payload rep, s.line.piece = some p →
    p.work = .exchange i a k first stale payload → p.discard = false → P s →
    P (applyExchange i rep (released s))
  complete : ∀ s r q c, s.reqs.queue = r :: q → placeTest r s = true → P s → P (completeHead c s)
  head : ∀ s r q r', s.reqs.queue = r :: q → placeTest r s = true → r'.inFlight = true → P s →
    P (replaceHead r' s)

/-! ## What the line's operations leave of the piece -/

@[simp] theorem LineEngine.restartQuiet_claim (l : LineEngine) : l.restartQuiet.claim = l.claim := rfl

theorem judge_claim (r : Report) (s : State) : (judge r s).line.claim = s.line.claim := by
  unfold judge LineEngine.claim
  rw [Option.map_map]
  rfl

theorem enterSettle_claim (r : Report) (s : State) : (enterSettle r s).line.claim = s.line.claim :=
  judge_claim r _

theorem enterSettle_lineOnly (r : Report) (s : State) : LineOnly s (enterSettle r s) :=
  ⟨rfl, rfl, rfl, rfl, rfl, rfl, rfl, rfl, rfl, rfl, rfl, rfl⟩

theorem enterClosingGuard_claim (r : Report) (s : State) :
    (enterClosingGuard r s).line.claim = s.line.claim :=
  judge_claim r _

theorem endReplyInError_claim (c : RxError) (s : State) :
    (endReplyInError c s).line.claim = s.line.claim :=
  enterSettle_claim _ _

theorem datedBack_claim (n : Nat) (s t : State) : (datedBack n s t).line.claim = t.line.claim := rfl

theorem windowExpires_claim (s : State) : (windowExpires s).line.claim = s.line.claim := by
  unfold windowExpires
  exact (datedBack_claim _ _ _).trans (enterClosingGuard_claim _ _)

theorem gapExpires_claim (s : State) : (gapExpires s).line.claim = s.line.claim := by
  unfold gapExpires
  exact (datedBack_claim _ _ _).trans (endReplyInError_claim _ _)

theorem completeReply_claim (b : List Byte) (s : State) :
    (completeReply b s).line.claim = s.line.claim := by
  unfold completeReply
  split
  · rfl
  · split
    · exact endReplyInError_claim _ _
    · exact enterClosingGuard_claim _ _

theorem receiveCharacter_claim (c : LineChar) (s : State) :
    (receiveCharacter c s).line.claim = s.line.claim := by
  unfold receiveCharacter
  split
  · exact endReplyInError_claim _ _
  · dsimp only
    split
    · exact completeReply_claim _ _
    · rfl

theorem characterEnds_claim (r : RxChar) (c : LineChar) (s : State) :
    (characterEnds r c s).line.claim = s.line.claim := by
  unfold characterEnds
  split
  · rfl
  · split
    case h_1 => exact receiveCharacter_claim c s
    all_goals rfl

theorem frameSent_claim (p : Piece) (s : State) : (frameSent p s).line.claim = s.line.claim := by
  unfold frameSent
  dsimp only
  split
  · exact enterClosingGuard_claim _ _
  · rfl

theorem characterSent_claim (p : Piece) (s : State) : (characterSent p s).line.claim = s.line.claim := by
  unfold characterSent
  split
  · exact frameSent_claim p s
  · rfl

theorem expireOverdue_claim (s : State) : (expireOverdue s).line.claim = s.line.claim := by
  unfold expireOverdue
  split
  case h_1 =>
    split
    · split
      · exact windowExpires_claim s
      · rfl
    · rfl
  case h_2 =>
    split
    · split
      · exact gapExpires_claim s
      · rfl
    · rfl
  all_goals rfl

theorem takeArrival_claim (s : State) : (takeArrival s).line.claim = s.line.claim := by
  unfold takeArrival
  dsimp only
  split <;> rfl

/-- A line block with the piece of before, its work and its mark, is a change that keeps the piece. -/
theorem PieceKept.of_claim {s : State} {l : LineEngine} (h : l.claim = s.line.claim) : PieceKept s l :=
  .inr (.inl h)

/-! ## The table -/

theorem SameLaws.of_set {s : State} {i : Slot} {r : Station} (h : (s.station i).SameLaws r) (j : Slot) :
    (s.station j).SameLaws (s.stations.set i r)[j] := by
  have after : (s.stations.set i r)[j] = if j = i then r else s.station j := station_setStation i j r s
  rw [after]
  split
  · rename_i same
    exact same ▸ h
  · exact .refl _

namespace RunKeeps

variable {P : State → Prop}

theorem lineOnly (k : RunKeeps P) {s t : State} (only : LineOnly s t) (kept : PieceKept s t.line) (h : P s) :
    P t := by
  rw [only.eq]
  exact k.line s _ kept h

theorem setStation (k : RunKeeps P) {s : State} {i : Slot} {r : Station} (same : (s.station i).SameLaws r)
    (h : P s) : P (s.setStation i r) :=
  k.stations s _ (SameLaws.of_set same) h

theorem phase (k : RunKeeps P) {s : State} (p : Phase) (h : P s) : P { s with sched.phase := p } :=
  k.sched s _ h

/-! ## Handover -/

theorem resetFirstToggle (k : RunKeeps P) (w : Work) {s : State} (h : P s) : P (resetFirstToggle w s) := by
  unfold Machine.resetFirstToggle
  split
  case h_1 => exact k.setStation ⟨rfl, rfl, rfl, rfl, rfl, rfl, rfl, rfl, rfl, rfl⟩ h
  all_goals exact h

theorem beginTransmit (k : RunKeeps P) {s : State} {p : Piece}
    (piece : s.line.piece = some p ∨ p.work.Callable s) (h : P s) : P (beginTransmit p s) := by
  unfold Machine.beginTransmit
  refine k.resetFirstToggle _ (k.line s _ ?_ h)
  rcases piece with inHand | callable
  · refine .inr (.inl ?_)
    simp [LineEngine.claim, Piece.claim, inHand]
  · exact .inr (.inr ⟨_, rfl, callable⟩)

theorem handOver (k : RunKeeps P) {s : State} {w : Work} (callable : w.Callable s) (h : P s) :
    P (handOver w s) := by
  unfold Machine.handOver
  split
  · exact k.beginTransmit (.inr callable) h
  · exact k.line s _ (.inr (.inr ⟨_, rfl, callable⟩)) h

/-! ## Admission -/

theorem startAttempt (k : RunKeeps P) {s : State} {r : Request} {q : List Request}
    (queue : s.reqs.queue = r :: q) (place : placeTest r s = true) (h : P s) : P (startAttempt r s) := by
  unfold Machine.startAttempt
  refine k.handOver (fun _ _ _ _ _ _ noCall => by cases noCall) ?_
  exact k.head _ r q _ queue place rfl (k.phase _ h)

theorem admitHeads (k : RunKeeps P) (n : Nat) {s : State} (h : P s) : P (admitHeads n s) := by
  induction n generalizing s with
  | zero => exact k.phase _ h
  | succ n ih =>
    unfold Machine.admitHeads
    split
    · exact k.phase _ h
    · rename_i r q queue
      split
      · exact k.phase _ h
      · rename_i place
        have place : placeTest r s = true := by simpa using place
        split
        · exact ih (k.complete s r q _ queue place h)
        · split
          · exact ih (k.complete s r q _ queue place h)
          · split
            · exact k.phase _ h
            · exact k.startAttempt queue place h

theorem admission (k : RunKeeps P) {s : State} (h : P s) : P (admission s) := k.admitHeads _ h

theorem quietAdmission (k : RunKeeps P) {s : State} (h : P s) : P (quietAdmission s) := by
  unfold Machine.quietAdmission
  split
  · exact k.admission h
  · exact h

/-! ## The work at a taken cycle start -/

theorem setCycleNumber (k : RunKeeps P) {s : State} (h : P s) : P (setCycleNumber s) := by
  unfold Machine.setCycleNumber
  split
  · exact h
  · exact k.sched s _ h

theorem postLate (k : RunKeeps P) (late : Option Word) {s : State} (h : P s) : P (postLate late s) := by
  cases late with
  | none => exact h
  | some d => exact k.notice s _ _ _ _ h

theorem applySwitch (k : RunKeeps P) {s : State} (h : P s) : P (applySwitch s) := by
  unfold Machine.applySwitch
  split
  · exact k.notice _ _ _ _ _ (k.lists s _ rfl rfl h)
  · exact h

theorem outputStep (k : RunKeeps P) {s : State} (h : P s) : P (outputStep s) := by
  unfold Machine.outputStep
  split
  · rename_i pending
    unfold applyCommit
    have taken := k.flags _ { s.events with outTakenFlag := true } (by rfl) (k.commit s pending h)
    dsimp only at taken ⊢
    split
    · exact k.notice _ _ _ _ _ taken
    · exact taken
  · unfold advanceFreshness
    have counted := k.freshCount s (satIncByte s.images.freshCount) h
    dsimp only
    split
    · exact k.notice _ _ _ _ _ counted
    · exact counted

theorem prepareFill (k : RunKeeps P) (start : Time) (late : Word) {s : State} (h : P s) :
    P (prepareFill start late s) :=
  k.fill s _ (fun _ wf => wf) h

theorem sameLaws_stepProbe (r : Station) : r.SameLaws r.stepProbe := by
  unfold Station.stepProbe
  split <;> exact ⟨rfl, rfl, rfl, rfl, rfl, rfl, rfl, rfl, rfl, rfl⟩

theorem stepProbes (k : RunKeeps P) {s : State} (h : P s) : P (stepProbes s) := by
  unfold Machine.stepProbes State.mapStations
  refine k.stations s _ (fun i => ?_) h
  rw [Fin.getElem_fin, Vector.getElem_ofFn]
  exact sameLaws_stepProbe (s.station i)

theorem sendSync (k : RunKeeps P) {s : State} (h : P s) : P (sendSync s) := by
  unfold Machine.sendSync
  refine k.handOver (fun _ _ _ _ _ _ noCall => by cases noCall) ?_
  have flagged := k.flags _ { s.events with cycleFlag := true } (by rfl) (k.phase .sync h)
  exact k.timeBase _ { s.tb with syncout := some 0 } (by rfl) (by rfl) flagged

theorem takeStart (k : RunKeeps P) (start : Time) (late : Option Word) {s : State} (h : P s) :
    P (takeStart start late s) :=
  k.sendSync (k.stepProbes (k.prepareFill _ _ (k.outputStep (k.applySwitch (k.postLate late
    (k.setCycleNumber h))))))

theorem takeHeld (k : RunKeeps P) (start : Time) {s : State} (h : P s) : P (takeHeld start s) :=
  k.takeStart _ _ (k.sched s _ h)

theorem refuseStart (k : RunKeeps P) {s : State} (h : P s) : P (refuseStart s) := k.notice s _ _ _ _ h

theorem answerAcyclic (k : RunKeeps P) (start : Time) {s : State} (h : P s) :
    P (answerAcyclic start s) := by
  unfold Machine.answerAcyclic
  split
  · split
    · exact k.sched s _ h
    · exact k.refuseStart h
  · exact k.takeStart _ _ h

theorem answerStart (k : RunKeeps P) (start : Time) {s : State} (h : P s) : P (answerStart start s) := by
  unfold Machine.answerStart
  split
  case h_1 =>
    split
    case h_1 => exact k.takeStart _ _ h
    case h_2 => exact k.refuseStart h
    case h_3 => exact k.refuseStart h
    case h_4 => exact k.answerAcyclic start h
    case h_5 => exact k.takeStart _ _ h
    case h_6 => exact h
  all_goals exact h

theorem deliverStart (k : RunKeeps P) (start next : Time) {s : State} (h : P s) :
    P (deliverStart start next s) :=
  k.answerStart _ (k.timeBase s _ rfl rfl h)

theorem cycleTimerExpires (k : RunKeeps P) {s : State} (h : P s) : P (cycleTimerExpires s) := by
  unfold Machine.cycleTimerExpires
  split
  · exact k.deliverStart _ _ h
  · exact h

/-! ## The walk -/

theorem sameLaws_reloadProbe (r : Station) : r.SameLaws r.reloadProbe := by
  unfold Station.reloadProbe
  split <;> exact ⟨rfl, rfl, rfl, rfl, rfl, rfl, rfl, rfl, rfl, rfl⟩

/-- Reloading a probe countdown enables and disables nothing. -/
theorem enabled_reloadProbe (s : State) (i j : Slot) :
    ((s.modifyStation i Station.reloadProbe).station j).enabled = (s.station j).enabled := by
  rw [station_modifyStation]
  split
  · rename_i same
    obtain ⟨-, -, -, -, -, -, -, enabled, -⟩ := sameLaws_reloadProbe (s.station i)
    rw [enabled, same]
  · rfl

theorem callEntry (k : RunKeeps P) {s : State} {i : Slot} (pos : Nat)
    (enabled : (s.station i).enabled = true) (h : P s) : P (callEntry i pos s) := by
  unfold Machine.callEntry
  refine k.handOver ?_ (k.setStation (sameLaws_reloadProbe _) (k.sched s _ h))
  intro j a n first stale payload call
  cases call
  exact (enabled_reloadProbe _ i i).trans enabled

theorem endWalk (k : RunKeeps P) {s : State} (h : P s) : P (endWalk s) := by
  unfold Machine.endWalk
  exact k.admission (k.sched _ _ (k.publish _ (k.fill s _ (fun _ wf => wf) h)))

theorem walk (k : RunKeeps P) (es : List ListEntry) (pos : Nat) {s : State} (h : P s) :
    P (walk es pos s) := by
  induction es generalizing pos s with
  | nil => exact k.endWalk h
  | cons e es ih =>
    unfold Machine.walk
    split
    · exact ih _ h
    · split
      · exact ih _ (k.fill s _ (fun _ wf => wf) h)
      · rename_i called
        refine k.callEntry pos ?_ (k.fill s _ (fun _ wf => wf) h)
        simp only [Station.skipped, Bool.or_eq_true, not_or, Bool.not_eq_true', Bool.not_eq_false] at called
        exact called.1

theorem walkFrom (k : RunKeeps P) (pos : Nat) {s : State} (h : P s) : P (walkFrom pos s) := k.walk _ _ h

/-! ## Reports -/

theorem placeTest_inFlight {r : Request} {s : State} (inFlight : r.inFlight = true) :
    placeTest r s = true := by
  unfold placeTest
  rw [inFlight, Bool.true_or]

/-- The request in flight is the head of the queue (R97). -/
theorem requestInFlight_eq_some {s : State} {r : Request} (h : s.requestInFlight = some r) :
    r.inFlight = true ∧ ∃ q, s.reqs.queue = r :: q := by
  unfold State.requestInFlight at h
  split at h
  · cases h
  · rename_i r' q queue
    split at h
    · rename_i inFlight
      cases h
      exact ⟨inFlight, q, queue⟩
    · cases h

theorem completeInFlight (k : RunKeeps P) {s : State} {r : Request} (c : Completion)
    (inFlight : s.requestInFlight = some r) (h : P s) : P (completeHead c s) := by
  obtain ⟨flying, q, queue⟩ := requestInFlight_eq_some inFlight
  exact k.complete s r q c queue (placeTest_inFlight flying) h

theorem replaceInFlight (k : RunKeeps P) {s : State} {r r' : Request}
    (inFlight : s.requestInFlight = some r) (still : r'.inFlight = true) (h : P s) :
    P (replaceHead r' s) := by
  obtain ⟨flying, q, queue⟩ := requestInFlight_eq_some inFlight
  exact k.head s r q r' queue (placeTest_inFlight flying) still h

theorem applyAttemptFailure (k : RunKeeps P) {s : State} {r : Request} (time : Time)
    (inFlight : s.requestInFlight = some r) (h : P s) : P (applyAttemptFailure r time s) := by
  unfold Machine.applyAttemptFailure
  split
  · exact k.completeInFlight _ inFlight h
  · split
    · exact k.completeInFlight _ inFlight h
    · split
      · exact k.replaceInFlight inFlight (requestInFlight_eq_some inFlight).1 h
      · exact k.completeInFlight _ inFlight h

theorem applyAttemptGood (k : RunKeeps P) {s : State} {r : Request} (len : Byte) (flags : BitVec 4)
    (payload : List Byte) (time : Time) (inFlight : s.requestInFlight = some r) (h : P s) :
    P (applyAttemptGood r len flags payload time s) :=
  k.completeInFlight (r := r) _ inFlight
    (k.setStation ⟨rfl, rfl, rfl, rfl, rfl, rfl, rfl, rfl, rfl, rfl⟩ h)

theorem applyAttempt (k : RunKeeps P) (rep : Report) {s : State} (h : P s) : P (applyAttempt rep s) := by
  unfold Machine.applyAttempt
  split
  · exact h
  · rename_i r inFlight
    split
    · exact k.applyAttemptGood _ _ _ _ inFlight h
    · exact h
    all_goals exact k.applyAttemptFailure _ inFlight h

theorem released (k : RunKeeps P) {s : State} (h : P s) : P (released s) := k.line s _ (.inl rfl) h

theorem applyReport (k : RunKeeps P) {s : State} {p : Piece} (rep : Report)
    (piece : s.line.piece = some p) (h : P s) : P (applyReport p rep (Machine.released s)) := by
  unfold Machine.applyReport
  split
  · unfold applySyncReport
    split
    · exact k.fill _ _ (fun _ wf => wf) (k.released h)
    · exact k.released h
  · rename_i call
    split
    · exact k.released h
    · exact k.exchange s p _ _ _ _ _ _ rep piece call (by simp_all) h
  · exact k.applyAttempt rep (k.released h)

/-- The end of a run: the Scheduler as it stands after it, the Time Base disarmed. -/
theorem runEnds (k : RunKeeps P) {s : State} (x : Scheduler) (h : P s) :
    P { s with sched := x, tb.armed := false } := by
  have disarmed := k.timeBase s { s.tb with armed := false } rfl rfl h
  exact k.sched _ x disarmed

theorem engineOff (k : RunKeeps P) {s : State} (h : P s) : P (engineOff s) := k.line s _ (.inl rfl) h

theorem drainEnd (k : RunKeeps P) {s : State} (h : P s) : P (drainEnd s) :=
  k.runEnds { s.sched with ctrl := .config, phase := .none } (k.engineOff h)

theorem afterAttempt (k : RunKeeps P) {s : State} (h : P s) : P (afterAttempt s) := by
  unfold Machine.afterAttempt
  split
  · exact k.takeHeld _ h
  · exact k.admission h

theorem proceed (k : RunKeeps P) (w : Work) {s : State} (h : P s) : P (proceed w s) := by
  cases w with
  | sync n => exact k.walkFrom 0 (k.phase _ h)
  | exchange => exact k.walkFrom _ h
  | attempt => exact k.afterAttempt h

theorem reportPiece (k : RunKeeps P) {s : State} {p : Piece} (rep : Report)
    (piece : s.line.piece = some p) (h : P s) : P (reportPiece p rep s) := by
  have applied := k.applyReport rep piece h
  unfold Machine.reportPiece
  dsimp only
  split
  · exact k.drainEnd applied
  · exact k.proceed _ applied

/-! ## The line fault -/

theorem failInFlight (k : RunKeeps P) {s : State} (h : P s) : P (failInFlight s) := by
  unfold Machine.failInFlight
  split
  · exact h
  · exact k.completeInFlight _ (by assumption) h

theorem lineFault (k : RunKeeps P) (c : FaultCause) {s : State} (h : P s) : P (lineFault c s) := by
  unfold Machine.lineFault
  exact k.runEnds _ (k.failInFlight (k.notice _ _ _ _ _ (k.engineOff h)))

theorem enterSettle (k : RunKeeps P) (rep : Report) {s : State} (h : P s) : P (enterSettle rep s) :=
  k.lineOnly (enterSettle_lineOnly rep s) (.of_claim (enterSettle_claim rep s)) h

theorem collide (k : RunKeeps P) {s : State} (h : P s) : P (collide s) := by
  unfold Machine.collide
  have counted := k.line s
    (countLine .collisions { s with line.collisionRun := s.line.collisionRun + 1 }).line
    (.of_claim rfl) h
  dsimp only
  split
  · exact k.lineFault _ counted
  · exact k.enterSettle _ counted

end RunKeeps

end Sys2Proof.Machine
end

section
/-! From the elementary changes to a whole step: what a property needs beside `RunKeeps` for every step to
keep it. -/

namespace Sys2Proof.Machine

/-- What keeps a property over every start of a run: the changes of a run, and what the tracker does before
it delivers one. -/
structure TrackerKeeps (P : State → Prop) : Prop extends RunKeeps P where
  locked : ∀ s, P s → P { s with tb.tracker := .locked, tb.missCount := 0 }
  missed : ∀ s, s.syncWindowDue = true → P s → P (countMiss s)

/-- What keeps a property over every step: the changes of a run with its tracker, and what accesses, commands
and resets do beside them. -/
structure StepKeeps (P : State → Prop) : Prop extends TrackerKeeps P where
  pending : ∀ s q, P s → P { s with pending := q }
  freeCount : ∀ s n, P s → P { s with freeCount := n }
  port : ∀ s x, x.winAddr = s.port.winAddr → P s → P { s with port := x }
  advance : ∀ s, P s → P (advanceWindow s)
  reset : ∀ s b c, P s → P { s with resetLow := b, clear := c }
  resetLow : ∀ s, P s → P { State.powerOn with pending := s.pending, freeCount := s.freeCount }
  clearEnd : ∀ s, P s → P (clearEnds s)
  command : ∀ s t, P s → Accepted s t → P t
  write : ∀ s t, P s → Written s t → P t

namespace TrackerKeeps

variable {P : State → Prop}

/-! ## The tracker -/

theorem acceptEdge (k : TrackerKeeps P) {s : State} (h : P s) : P (acceptEdge s) :=
  k.deliverStart _ _ (k.locked s h)

theorem countStray (k : TrackerKeeps P) {s : State} (h : P s) : P (countLine .strayEdges s) :=
  k.line s _ (.of_claim rfl) h

theorem examineEdge (k : TrackerKeeps P) {s : State} (h : P s) : P (examineEdge s) := by
  unfold Machine.examineEdge
  split
  · split
    · exact k.acceptEdge h
    · exact k.countStray h
  · exact k.countStray h

theorem trackEdge (k : TrackerKeeps P) {s : State} (h : P s) : P (trackEdge s) := by
  unfold Machine.trackEdge
  split
  case h_1 => exact k.acceptEdge (k.notice _ _ _ _ _ h)
  case h_2 => exact k.acceptEdge (k.notice _ _ _ _ _ h)
  case h_3 => exact k.examineEdge h
  case h_4 => exact k.examineEdge h
  case h_5 => exact h

theorem generateStart (k : TrackerKeeps P) {s : State} (due : s.syncWindowDue = true) (h : P s) :
    P (generateStart s) := by
  unfold Machine.generateStart
  split
  · exact k.deliverStart _ _ (k.missed s due h)
  · exact h

end TrackerKeeps

namespace StepKeeps

variable {P : State → Prop}

theorem access (k : StepKeeps P) {s : State} (h : P s) : P (setAccess s) := k.flags s _ rfl h

/-! ## Time -/

theorem passClocks (k : StepKeeps P) (n : Nat) {s : State} (h : P s) : P (passClocks n s) := by
  have line := k.line s (s.line.pass n) (.of_claim rfl) h
  have pulse := k.timeBase _ { s.tb with syncout := runTimer n s.tb.syncout } (by rfl) (by rfl) line
  exact k.reset _ s.resetLow (runTimer n s.clear) pulse

theorem passMicrosecond (k : StepKeeps P) {s : State} (h : P s) : P (passMicrosecond s) := by
  unfold Machine.passMicrosecond
  split
  · exact h
  · exact k.timeBase _ _ (by rfl) (by rfl) (k.passClocks _ h)

theorem passClock (k : StepKeeps P) {s : State} (h : P s) : P (passClock s) := by
  unfold Machine.passClock
  split
  · exact h
  · split
    · exact k.timeBase _ _ (by rfl) (by rfl) (k.passClocks _ h)
    · exact k.timeBase _ _ (by rfl) (by rfl) (k.passClocks _ h)

/-! ## The line -/

theorem expireOverdue (k : StepKeeps P) {s : State} (h : P s) : P (expireOverdue s) :=
  k.lineOnly (expireOverdue_frame s) (.of_claim (expireOverdue_claim s)) h

theorem takeArrival (k : StepKeeps P) {s : State} (h : P s) : P (takeArrival s) :=
  k.lineOnly (takeArrival_frame s) (.of_claim (takeArrival_claim s)) h

theorem characterEnds (k : StepKeeps P) (r : RxChar) (c : LineChar) {s : State} (h : P s) :
    P (characterEnds r c s) :=
  k.lineOnly (characterEnds_frame r c s) (.of_claim (characterEnds_claim r c s)) h

theorem characterSent (k : StepKeeps P) (p : Piece) {s : State} (h : P s) : P (characterSent p s) :=
  k.lineOnly (characterSent_frame p s) (.of_claim (characterSent_claim p s)) h

theorem windowExpires (k : StepKeeps P) {s : State} (h : P s) : P (windowExpires s) :=
  k.lineOnly (windowExpires_frame s) (.of_claim (windowExpires_claim s)) h

theorem gapExpires (k : StepKeeps P) {s : State} (h : P s) : P (gapExpires s) :=
  k.lineOnly (gapExpires_frame s) (.of_claim (gapExpires_claim s)) h

/-- The piece in its opening guard is the one in hand. -/
theorem piece_of_openingPiece {s : State} {p : Piece} (h : s.openingPiece = some p) :
    s.line.piece = some p := by
  unfold State.openingPiece at h
  split at h
  · exact (Option.filter_eq_some_iff.mp h).1
  · cases h

/-- The piece in its closing guard is the one in hand. -/
theorem piece_of_closingPiece {s : State} {p : Piece} {rep : Report}
    (h : s.closingPiece = some (p, rep)) : s.line.piece = some p := by
  unfold State.closingPiece at h
  split at h
  · obtain ⟨q, piece, report⟩ := Option.bind_eq_some_iff.mp h
    obtain ⟨_, -, pair⟩ := Option.map_eq_some_iff.mp report
    cases pair
    exact piece
  · cases h

/-- A property that these changes keep is kept by everything a step can do. -/
theorem keeps (k : StepKeeps P) : Keeps P where
  pending := k.pending
  freeCount := k.freeCount
  dataOut s _ h := k.port s _ rfl h
  result s _ _ _ h := k.port s _ rfl h
  access _ h _ := k.access h
  command s t h _ done := k.command s t h done
  write s t h _ done := k.write s t h done
  snapshot s h := k.port s _ rfl h
  advance := k.advance
  resetLow := k.resetLow
  release s h _ := k.reset s _ _ h
  clearEnd s h _ := k.clearEnd s h
  tick _ h := k.passMicrosecond h
  clock _ h := k.passClock h
  edge _ h _ _ := k.trackEdge h
  arrival _ h _ := k.takeArrival (k.expireOverdue h)
  discard s _ h _ := k.line s _ (.of_claim rfl) h
  sample s _ h _ := k.line s _ (.of_claim rfl) h
  completion s r c h _ := k.characterEnds r c (k.line s _ (.of_claim rfl) h)
  echo s h := k.line s _ (.of_claim rfl) h
  sent _ p h _ _ := k.characterSent p h
  collision _ _ h _ _ := k.collide h
  window _ h _ := k.windowExpires h
  gap _ h _ := k.gapExpires h
  opening _ _ h piece := k.beginTransmit (.inl (piece_of_openingPiece piece)) h
  settle s h _ := k.line s _ (.of_claim rfl) h
  closing _ _ r h piece := k.reportPiece r (piece_of_closingPiece piece) h
  busy _ h _ := k.lineFault _ h
  cycleTimer _ h _ := k.cycleTimerExpires h
  syncWindow _ h due := k.generateStart due h
  pulse s h := k.timeBase s _ rfl rfl h

end StepKeeps

end Sys2Proof.Machine
end

section
/-! R71, R94, R183: the roles of the banks, the canonical form of every memory and the even WIN_ADDR, which
every step keeps. -/

namespace Sys2Proof.Machine

/-- The bank roles, the form of every memory, and the addresses the buffer window reaches. -/
def State.BanksHeld (s : State) : Prop :=
  s.images.RolesHeld ∧ s.images.MemoryHeld ∧ Memory.wf s.reqs.payload ∧ s.WindowHeld

theorem State.BanksHeld.of_eq {s t : State} (h : s.BanksHeld) (images : t.images = s.images)
    (payload : t.reqs.payload = s.reqs.payload) (port : t.port.winAddr = s.port.winAddr) :
    t.BanksHeld := by
  unfold State.BanksHeld State.WindowHeld at *
  rwa [images, payload, port]

/-! ## The regions of the window that a write reaches -/

theorem staged_of_windowPlace {a b : Nat} (h : windowPlace a = .staged b) : b = a ∧ a < 0x400 := by
  unfold windowPlace at h
  (repeat' split at h) <;> simp only [WindowPlace.staged.injEq, reduceCtorEq] at h
  exact ⟨h.symm, by assumption⟩

theorem composer_of_windowPlace {a k : Nat} (h : windowPlace a = .composer k) :
    k = a - 0xB00 ∧ 0xB00 ≤ a ∧ a < 0xB78 := by
  unfold windowPlace at h
  (repeat' split at h) <;> simp only [WindowPlace.composer.injEq, reduceCtorEq] at h
  exact ⟨h.symm, by omega, by assumption⟩

theorem even_add_two {a : BitVec 12} (even : a.toNat % 2 = 0) : (a + 2).toNat % 2 = 0 := by
  rw [BitVec.toNat_add]
  show (a.toNat + 2) % 4096 % 2 = 0
  omega

theorem even_of_windowAddress {w : Word} {a : BitVec 12} (h : windowAddressOfWord w = some a) :
    a.toNat % 2 = 0 := by
  unfold windowAddressOfWord at h
  split at h
  · cases h
    rw [BitVec.toNat_append]
    show (BitVec.toNat _ <<< 1 ||| 0) % 2 = 0
    rw [Nat.or_zero, Nat.shiftLeft_eq]
    omega
  · cases h

/-! ## Storing in a bank -/

theorem forall_set_outBank {Q : Memory → Prop} {v : Vector Memory 2} (i : Fin 2) {m : Memory}
    (all : ∀ k : Fin 2, Q v[k]) (new : Q m) (k : Fin 2) : Q (v.set i m)[k] := by
  rw [Fin.getElem_fin, Vector.getElem_set]
  split
  · exact new
  · exact all k

theorem forall_set_inBank {Q : InBank → Prop} {v : Vector InBank 3} (i : Fin 3) {b : InBank}
    (all : ∀ k : Fin 3, Q v[k]) (new : Q b) (k : Fin 3) : Q (v.set i b)[k] := by
  rw [Fin.getElem_fin, Vector.getElem_set]
  split
  · exact new
  · exact all k

theorem banksHeld_modifyFill {s : State} {f : InBank → InBank}
    (wf : ∀ b : InBank, Memory.wf b.data → Memory.wf (f b).data) (h : s.BanksHeld) :
    (s.modifyFill f).BanksHeld := by
  obtain ⟨roles, ⟨out, inp⟩, payload, window⟩ := h
  exact ⟨roles, ⟨out, forall_set_inBank (Q := fun b => Memory.wf b.data) _ inp (wf _ (inp _))⟩, payload,
    window⟩

theorem banksHeld_storeStaged {s : State} {a : Nat} (w : Word) (inside : a + 1 < 1024) (h : s.BanksHeld) :
    (storeStaged a w s).BanksHeld := by
  obtain ⟨roles, ⟨out, inp⟩, payload, even, low, short⟩ := h
  refine ⟨roles, ⟨forall_set_outBank _ out (Memory.wf_writeAll _ _ (out _)), inp⟩, payload, even,
    forall_set_outBank (Q := fun m => ∀ c ∈ m, c.1 < 1024) _ low fun c listed => ?_, short⟩
  rcases Memory.mem_writeAll listed with before | ⟨-, below⟩
  · exact low _ c before
  · exact Nat.lt_of_lt_of_le below inside

theorem banksHeld_storePayload {s : State} {k : Nat} (w : Word) (inside : k + 1 < 120) (h : s.BanksHeld) :
    ({ s with reqs.payload := Memory.writeAll s.reqs.payload k (wordBytes w) } : State).BanksHeld := by
  obtain ⟨roles, memory, payload, even, low, short⟩ := h
  refine ⟨roles, memory, Memory.wf_writeAll _ _ payload, even, low, fun c listed => ?_⟩
  rcases Memory.mem_writeAll listed with before | ⟨-, below⟩
  · exact short c before
  · exact Nat.lt_of_lt_of_le below inside

theorem banksHeld_advance {s : State} (h : s.BanksHeld) : (advanceWindow s).BanksHeld := by
  obtain ⟨roles, memory, payload, even, low, short⟩ := h
  exact ⟨roles, memory, payload, even_add_two even, low, short⟩

/-! ## Banks set afresh -/

theorem memoryHeld_cleared {m : Images} (out : m.outBanks = Vector.replicate 2 [])
    (inp : m.inBanks = Vector.replicate 3 {}) : m.MemoryHeld := by
  unfold Images.MemoryHeld
  rw [out, inp]
  refine ⟨fun k => ?_, fun k => ?_⟩
  all_goals
    simp only [Fin.getElem_fin, Vector.getElem_replicate]
    exact Memory.wf_nil

theorem outBanks_low_cleared {m : Images} (out : m.outBanks = Vector.replicate 2 []) (k : Fin 2) :
    ∀ c ∈ m.outBanks[k], c.1 < 1024 := by
  rw [out, Fin.getElem_fin, Vector.getElem_replicate]
  simp

/-- The default roles are held one each (R71). -/
theorem rolesHeld_default {m : Images} (out : m.live = 0 ∧ m.staged = 1)
    (inp : m.fill = 0 ∧ m.ready = 1 ∧ m.heldBank = 2) : m.RolesHeld := by
  obtain ⟨live, staged⟩ := out
  obtain ⟨fill, ready, held⟩ := inp
  unfold Images.RolesHeld
  rw [live, staged, fill, ready, held]
  decide

theorem forall_mem_nil_low : ∀ c ∈ ([] : Memory), c.1 < 120 := by simp

theorem banksHeld_powerOn : State.powerOn.BanksHeld :=
  ⟨rolesHeld_default ⟨rfl, rfl⟩ ⟨rfl, rfl, rfl⟩, memoryHeld_cleared rfl rfl, Memory.wf_nil, rfl,
    outBanks_low_cleared rfl, forall_mem_nil_low⟩

theorem banksHeld_clearEnds {s : State} (h : s.BanksHeld) : (clearEnds s).BanksHeld := by
  obtain ⟨roles, -, -, even, -, -⟩ := h
  exact ⟨roles, memoryHeld_cleared rfl rfl, Memory.wf_nil, even, outBanks_low_cleared rfl,
    forall_mem_nil_low⟩

theorem banksHeld_softReset {s : State} (h : s.BanksHeld) : (softResetRun s).BanksHeld := by
  obtain ⟨-, memory, payload, window⟩ := h
  exact ⟨rolesHeld_default ⟨rfl, rfl⟩ ⟨rfl, rfl, rfl⟩, memory, payload, window⟩

/-! ## Roles exchanged -/

theorem banksHeld_commit {s : State} (h : s.BanksHeld) :
    ({ s with
      images.live := s.images.staged, images.staged := s.images.live, images.commitPending := false,
      images.freshCount := 0 } : State).BanksHeld := by
  obtain ⟨⟨out, inp⟩, others⟩ := h
  exact ⟨⟨out.symm, inp⟩, others⟩

theorem banksHeld_publish {s : State} (h : s.BanksHeld) : (publish s).BanksHeld := by
  obtain ⟨⟨out, fillReady, fillHeld, readyHeld⟩, others⟩ := h
  exact ⟨⟨out, fillReady.symm, readyHeld, fillHeld⟩, others⟩

theorem banksHeld_takeReady {s : State} (h : s.BanksHeld) : (takeReady s).BanksHeld := by
  obtain ⟨⟨out, fillReady, fillHeld, readyHeld⟩, others⟩ := h
  exact ⟨⟨out, fillHeld, fillReady, readyHeld.symm⟩, others⟩

/-! ## What leaves the banks as they are -/

theorem banksHeld_applyGoodReply {s : State} (i : Slot) (flags : BitVec 4) (time : Time) (h : s.BanksHeld) :
    (applyGoodReply i flags time s).BanksHeld :=
  h.of_eq (by simp) (by simp) (by simp)

theorem banksHeld_applyFailure {s : State} (i : Slot) (timedOut : Bool) (h : s.BanksHeld) :
    (applyFailure i timedOut s).BanksHeld :=
  h.of_eq (by simp) (by simp) (by simp)

theorem banksHeld_writeOutcome {s : State} (i : Slot) (code : SlotCode) (len : Byte) (flags : BitVec 4)
    (time : Time) (payload : List Byte) (h : s.BanksHeld) :
    (writeOutcome i code len flags time payload s).BanksHeld := by
  refine banksHeld_modifyFill (fun b wf => ?_) h
  dsimp only
  split
  · exact Memory.wf_writeAll _ _ wf
  · exact wf

theorem banksHeld_applyExchange {s : State} (i : Slot) (rep : Report) (h : s.BanksHeld) :
    (applyExchange i rep s).BanksHeld := by
  unfold applyExchange
  split
  case h_1 => exact banksHeld_applyGoodReply _ _ _ (banksHeld_writeOutcome _ _ _ _ _ _ h)
  case h_5 => exact h
  all_goals exact banksHeld_applyFailure _ _ (banksHeld_writeOutcome _ _ _ _ _ _ h)

theorem banksHeld_storeConfig {s : State} (r : ConfigReg) (w : Word) (h : s.BanksHeld) :
    (storeConfig r w s).BanksHeld := by
  unfold storeConfig takeWord
  (repeat' split) <;> exact h

theorem markDisabled_payload (i : Slot) (s : State) : (markDisabled i s).reqs.payload = s.reqs.payload := by
  unfold markDisabled
  (repeat' split) <;> rfl

theorem cancelInFlight_payload (r : Request) (s : State) :
    (cancelInFlight r s).reqs.payload = s.reqs.payload := by
  unfold cancelInFlight
  split <;> rfl

theorem startRun_payload (s : State) : (startRun s).reqs.payload = s.reqs.payload := by
  unfold startRun armTimeBase applySwitch
  dsimp only
  (repeat' split) <;> simp

theorem runKeeps_banks : RunKeeps State.BanksHeld where
  notice _ _ _ _ _ h := h.of_eq (by simp) (by simp) (by simp)
  flags _ _ _ h := h
  sched _ _ h := h
  timeBase _ _ _ _ h := h
  line _ _ _ h := h
  stations _ _ _ h := h
  lists _ _ _ _ h := h
  commit _ _ h := banksHeld_commit h
  freshCount _ _ h := h
  fill _ _ wf h := banksHeld_modifyFill wf h
  publish _ h := banksHeld_publish h
  exchange _ _ i _ _ _ _ _ rep _ _ _ h := banksHeld_applyExchange i rep h
  complete _ _ _ _ _ _ h := h
  head _ _ _ _ _ _ _ h := h

theorem banksHeld_accepted {s t : State} (h : s.BanksHeld) (done : Accepted s t) : t.BanksHeld := by
  cases done
  case start => exact h.of_eq (by simp) (startRun_payload s) (by simp)
  case stop => exact h.of_eq (by simp) (by simp) (by simp)
  case softReset => exact banksHeld_softReset h
  case disableStation i _ => exact h.of_eq (by simp) (markDisabled_payload i _) (by simp)
  case take => exact banksHeld_takeReady h
  case post => exact runKeeps_banks.quietAdmission h
  case cancelInFlight r _ =>
    exact runKeeps_banks.quietAdmission (h.of_eq (by simp) (cancelInFlight_payload r s) (by simp))
  case withdraw => exact runKeeps_banks.quietAdmission h
  case popCompletion => exact runKeeps_banks.quietAdmission h
  all_goals exact h

theorem banksHeld_written {s t : State} (h : s.BanksHeld) (done : Written s t) : t.BanksHeld := by
  have even : s.port.winAddr.toNat % 2 = 0 := h.2.2.2.1
  cases done
  case config r w _ => exact banksHeld_storeConfig r w h
  case winAddr w a address =>
    obtain ⟨roles, memory, payload, -, low, short⟩ := h
    exact ⟨roles, memory, payload, even_of_windowAddress address, low, short⟩
  case staged a w place _ =>
    obtain ⟨offset, below⟩ := staged_of_windowPlace place
    exact banksHeld_advance (banksHeld_storeStaged w (by omega) h)
  case payload k w place =>
    obtain ⟨offset, above, below⟩ := composer_of_windowPlace place
    exact banksHeld_advance (banksHeld_storePayload w (by omega) h)
  case windowAccess => exact banksHeld_advance h
  all_goals exact h

theorem stepKeeps_banks : StepKeeps State.BanksHeld where
  toRunKeeps := runKeeps_banks
  pending _ _ h := h
  freeCount _ _ h := h
  port _ _ same h := h.of_eq rfl rfl same
  advance _ h := banksHeld_advance h
  reset _ _ _ h := h
  resetLow _ _ := banksHeld_powerOn
  clearEnd _ h := banksHeld_clearEnds h
  locked _ h := h
  missed _ _ h := h.of_eq (by simp) (by simp) (by simp)
  command _ _ h done := banksHeld_accepted h done
  write _ _ h done := banksHeld_written h done

/-- Settles O56: `stepKeeps_banks` says it of each thing a step can do. -/
theorem everyStepKeepsTheBanks : Obligations.EveryStepKeepsTheBanks := by
  unfold Obligations.EveryStepKeepsTheBanks
  intro s t roles memory payload window stepped
  have held : s.BanksHeld := ⟨roles, memory, payload, window⟩
  exact stepKeeps_banks.keeps.step held stepped

end Sys2Proof.Machine
end

section
/-! R96, R97, R130, R172: the places of the request, completion and event queues, and the tracker's miss
count, which every step keeps. -/

namespace Sys2Proof.Machine

/-- The places of the queues, and the miss count's agreement with the tracker. -/
def State.QueuesLaw (s : State) : Prop := s.reqs.QueuesHeld ∧ s.events.QueueHeld ∧ s.tb.TrackerHeld

theorem State.QueuesLaw.of_eq {s t : State} (h : s.QueuesLaw) (reqs : t.reqs = s.reqs)
    (events : t.events = s.events) (tb : t.tb = s.tb) : t.QueuesLaw := by
  unfold State.QueuesLaw at *
  rwa [reqs, events, tb]

/-! ## The request queue -/

/-- With only the head in flight, the requests in flight are counted by the head (R97). -/
theorem inFlight_cons {reqs : Requests} {r : Request} {q : List Request} (queue : reqs.queue = r :: q)
    (waiting : ∀ x ∈ q, x.inFlight = false) : reqs.inFlight = if r.inFlight then 1 else 0 := by
  unfold Requests.inFlight
  rw [queue, List.countP_cons, List.countP_eq_zero.mpr fun x listed => by simp [waiting x listed]]
  simp

theorem inFlight_none {reqs : Requests} (waiting : ∀ x ∈ reqs.queue, x.inFlight = false) :
    reqs.inFlight = 0 :=
  List.countP_eq_zero.mpr fun x listed => by simp [waiting x listed]

/-- A head that passes the place test can leave a completion record or hold a reservation (R99). -/
theorem place_of_placeTest {s : State} {r : Request} {q : List Request} (held : s.reqs.QueuesHeld)
    (queue : s.reqs.queue = r :: q) (place : placeTest r s = true) : s.reqs.completions.length < 8 := by
  obtain ⟨-, places, waiting, -⟩ := held
  rw [queue] at waiting
  unfold placeTest Requests.placeFree at place
  rw [inFlight_cons queue waiting] at places place
  cases flying : r.inFlight
  · simpa [flying, Config.completionPlaces] using place
  · simpa [flying] using places

theorem queuesHeld_completeHead {s : State} {r : Request} {q : List Request} (c : Completion)
    (queue : s.reqs.queue = r :: q) (place : placeTest r s = true) (held : s.reqs.QueuesHeld) :
    (completeHead c s).reqs.QueuesHeld := by
  have room := place_of_placeTest held queue place
  obtain ⟨length, -, waiting, unused⟩ := held
  rw [queue] at length waiting unused
  have left : (completeHead c s).reqs.queue = q := by
    show s.reqs.queue.tail = q
    rw [queue, List.tail_cons]
  have none_flying : (completeHead c s).reqs.inFlight = 0 := inFlight_none (by rw [left]; exact waiting)
  refine ⟨?_, ?_, ?_, ?_⟩
  · rw [left]
    exact Nat.le_of_succ_le length
  · rw [none_flying]
    show (s.reqs.completions ++ [c]).length ≤ 8
    rw [List.length_append]
    exact room
  · rw [left]
    exact fun x listed => waiting x (List.mem_of_mem_tail listed)
  · rw [left]
    exact fun x listed => unused x (List.mem_cons_of_mem r listed)

theorem queuesHeld_replaceHead {s : State} {r r' : Request} {q : List Request}
    (queue : s.reqs.queue = r :: q) (place : placeTest r s = true) (flying : r'.inFlight = true)
    (held : s.reqs.QueuesHeld) : (replaceHead r' s).reqs.QueuesHeld := by
  have room := place_of_placeTest held queue place
  obtain ⟨length, -, waiting, unused⟩ := held
  rw [queue] at length waiting unused
  have replaced : (replaceHead r' s).reqs.queue = r' :: q := by
    show r' :: s.reqs.queue.tail = _
    rw [queue, List.tail_cons]
  refine ⟨?_, ?_, ?_, ?_⟩
  · rw [replaced]
    exact length
  · rw [inFlight_cons replaced waiting, if_pos flying]
    exact room
  · rw [replaced]
    exact waiting
  · rw [replaced]
    intro x listed notFlying
    rcases List.mem_cons.mp listed with rfl | later
    · exact absurd flying (by simp [notFlying])
    · exact unused x (List.mem_cons_of_mem r later) notFlying

/-- A new request goes to the tail, not in flight and not attempted (R95). -/
theorem queuesHeld_post {reqs : Requests} {r : Request} (room : reqs.queue.length < 8)
    (waits : r.inFlight = false) (fresh : r.attemptsUsed = 0) (held : reqs.QueuesHeld) :
    ({ reqs with queue := reqs.queue ++ [r] } : Requests).QueuesHeld := by
  obtain ⟨-, places, waiting, unused⟩ := held
  refine ⟨by simpa using room, ?_, fun x listed => ?_, fun x listed notFlying => ?_⟩
  · simpa [Requests.inFlight, waits] using places
  · have later : x ∈ reqs.queue.tail ∨ x = r := by
      cases queue : reqs.queue with
      | nil => simp [queue] at listed
      | cons y ys => simpa [queue] using listed
    rcases later with later | rfl
    · exact waiting x later
    · exact waits
  · rcases List.mem_append.mp listed with before | new
    · exact unused x before notFlying
    · rw [List.mem_singleton.mp new]
      exact fresh

/-- The request `withdraw` finds: the first with the tag that is not in flight, with what stands before it
and after it (R111, R113). -/
theorem withdraw_eq_some {tag : Byte} {l rest : List Request} {r : Request}
    (h : withdraw tag l = some (r, rest)) :
    ∃ a b, l = a ++ r :: b ∧ rest = a ++ b ∧ r.tag = tag ∧ r.inFlight = false := by
  induction l generalizing rest with
  | nil => cases h
  | cons x xs ih =>
    unfold withdraw at h
    split at h
    · rename_i waits
      cases h
      exact ⟨[], xs, rfl, rfl, waits⟩
    · obtain ⟨⟨r', rest'⟩, found, pair⟩ := Option.map_eq_some_iff.mp h
      cases pair
      obtain ⟨a, b, rfl, rfl, waits⟩ := ih found
      exact ⟨x :: a, b, rfl, rfl, waits⟩

/-- A request leaves its position, and its record takes a free place (R113). -/
theorem queuesHeld_withdraw {reqs : Requests} {r : Request} {a b : List Request} (c : Completion)
    (queue : reqs.queue = a ++ r :: b) (waits : r.inFlight = false) (place : reqs.placeFree = true)
    (held : reqs.QueuesHeld) :
    ({ reqs with queue := a ++ b, completions := reqs.completions ++ [c] } : Requests).QueuesHeld := by
  obtain ⟨length, -, waiting, unused⟩ := held
  rw [queue] at length waiting unused
  have room : reqs.completions.length + (a ++ b).countP (·.inFlight) < 8 := by
    simpa [Requests.placeFree, Requests.inFlight, queue, waits, Config.completionPlaces] using place
  refine ⟨?_, ?_, fun x listed => waiting x ?_, fun x listed => unused x ?_⟩
  · simp only [List.length_append, List.length_cons] at length ⊢
    omega
  · simp only [Requests.inFlight, List.length_append, List.length_singleton]
    omega
  · cases a with
    | nil => exact List.mem_of_mem_tail listed
    | cons y ys =>
      simp only [List.cons_append, List.tail_cons, List.mem_append, List.mem_cons] at listed ⊢
      tauto
  · simp only [List.mem_append, List.mem_cons] at listed ⊢
    tauto

/-- Fewer completion records leave the places as they were or free one. -/
theorem queuesHeld_pop {reqs : Requests} {c : Completion} {cs : List Completion}
    (completions : reqs.completions = c :: cs) (held : reqs.QueuesHeld) :
    ({ reqs with completions := cs } : Requests).QueuesHeld := by
  obtain ⟨length, places, others⟩ := held
  rw [completions, List.length_cons] at places
  exact ⟨length, by show cs.length + reqs.inFlight ≤ 8; omega, others⟩

/-- START sets the posted cycle of every request and nothing the places rest on (R163). -/
theorem queuesHeld_posted {reqs : Requests} (n : Word) (held : reqs.QueuesHeld) :
    ({ reqs with queue := reqs.queue.map fun r => { r with postedCycle := n } } : Requests).QueuesHeld := by
  obtain ⟨length, places, waiting, unused⟩ := held
  refine ⟨by simpa using length, ?_, ?_, ?_⟩
  · simpa [Requests.inFlight, Function.comp_def] using places
  · simpa [← List.map_tail] using waiting
  · simpa using unused

theorem queuesHeld_empty {reqs : Requests} (queue : reqs.queue = [])
    (completions : reqs.completions = []) : reqs.QueuesHeld := by
  unfold Requests.QueuesHeld Requests.inFlight
  rw [queue, completions]
  simp

/-! ## The event queue -/

theorem queueHeld_notify {s : State} (c : EventCode) (b : Byte) (n d : Word) (held : s.events.QueueHeld) :
    (notify c b n d s).events.QueueHeld := by
  unfold notify
  split
  · rename_i room
    show (s.events.queue ++ [_]).length ≤ 32
    rw [List.length_append]
    exact room
  · exact held

theorem queuesLaw_notify {s : State} (c : EventCode) (b : Byte) (n d : Word) (h : s.QueuesLaw) :
    (notify c b n d s).QueuesLaw := by
  obtain ⟨requests, events, tracker⟩ := h
  exact ⟨by simpa using requests, queueHeld_notify c b n d events, by simpa using tracker⟩

/-! ## The tracker -/

theorem trackerHeld_mode {t : TimeBase} (external : Bool) (tracker : t.tracker = trackerForMode external)
    (missCount : t.missCount = 0) : t.TrackerHeld := by
  unfold TimeBase.TrackerHeld
  rw [tracker, missCount]
  cases external <;> rfl

theorem trackerHeld_armTimeBase (s : State) : (armTimeBase s).tb.TrackerHeld := by
  unfold armTimeBase
  split
  · exact trackerHeld_mode true rfl rfl
  · exact trackerHeld_mode false rfl rfl

theorem queuesLaw_armTimeBase {s : State} (h : s.QueuesLaw) : (armTimeBase s).QueuesLaw := by
  obtain ⟨requests, events, -⟩ := h
  refine ⟨?_, ?_, trackerHeld_armTimeBase s⟩
  · unfold armTimeBase
    split <;> exact requests
  · unfold armTimeBase
    split <;> exact events

/-- The window of an expected start is open in LOCKED, COASTING and UNLOCKED alone (R129, R131). -/
theorem tracker_of_syncWindowDue {s : State} (due : s.syncWindowDue = true) :
    s.tb.tracker = .locked ∨ s.tb.tracker = .coasting ∨ s.tb.tracker = .unlocked := by
  unfold State.syncWindowDue at due
  simp only [Bool.and_eq_true, Bool.or_eq_true, beq_iff_eq, or_assoc] at due
  exact due.1.2

/-- A miss steps the count to 1 or 2 in COASTING, the third makes it UNLOCKED (R129, R130). -/
theorem queuesLaw_countMiss {s : State} (due : s.syncWindowDue = true) (h : s.QueuesLaw) :
    (countMiss s).QueuesLaw := by
  obtain ⟨requests, events, tracker⟩ := h
  unfold countMiss
  split
  · exact ⟨requests, events, tracker⟩
  · rename_i locked
    split
    · exact queuesLaw_notify _ _ _ _ (queuesLaw_notify _ _ _ _ ⟨requests, events, rfl⟩)
    · rename_i notThird
      refine queuesLaw_notify _ _ _ _ ⟨requests, events, ?_⟩
      show s.tb.missCount + 1 = 1 ∨ s.tb.missCount + 1 = 2
      unfold TimeBase.TrackerHeld at tracker
      rcases tracker_of_syncWindowDue due with state | state | state
      · rw [state] at tracker
        exact .inl (by rw [show s.tb.missCount = 0 from tracker]; rfl)
      · rw [state] at tracker
        exact .inr (by rw [(show s.tb.missCount = 1 ∨ s.tb.missCount = 2 from tracker).resolve_right notThird]; rfl)
      · exact absurd state locked

/-! ## What a step does to them -/

theorem queuesLaw_notifyStation {s : State} (c : EventCode) (i : Slot) (d : Word) (h : s.QueuesLaw) :
    (notifyStation c i d s).QueuesLaw :=
  queuesLaw_notify _ _ _ _ h

theorem queuesLaw_applyGoodReply {s : State} (i : Slot) (flags : BitVec 4) (time : Time) (h : s.QueuesLaw) :
    (applyGoodReply i flags time s).QueuesLaw := by
  have health (before : Health) (t : State) (ht : t.QueuesLaw) : (postGoodHealth i before t).QueuesLaw := by
    cases before
    case seeking => exact queuesLaw_notifyStation _ _ _ ht
    case lost => exact queuesLaw_notifyStation _ _ _ ht
    all_goals exact ht
  unfold applyGoodReply
  dsimp only
  split
  · exact queuesLaw_notifyStation _ _ _ (health _ _ h)
  · exact health _ _ h

theorem queuesLaw_applyFailure {s : State} (i : Slot) (timedOut : Bool) (h : s.QueuesLaw) :
    (applyFailure i timedOut s).QueuesLaw := by
  unfold applyFailure
  dsimp only
  split
  · exact queuesLaw_notifyStation _ _ _ h
  · split
    · exact queuesLaw_notifyStation _ _ _ h
    · exact h

theorem queuesLaw_applyExchange {s : State} (i : Slot) (rep : Report) (h : s.QueuesLaw) :
    (applyExchange i rep s).QueuesLaw := by
  unfold applyExchange
  split
  case h_1 => exact queuesLaw_applyGoodReply _ _ _ h
  case h_5 => exact h
  all_goals exact queuesLaw_applyFailure _ _ h

theorem runKeeps_queues : RunKeeps State.QueuesLaw where
  notice _ _ _ _ _ h := queuesLaw_notify _ _ _ _ h
  flags s e same h := by
    obtain ⟨requests, events, tracker⟩ := h
    exact ⟨requests, by unfold Events.QueueHeld at *; rwa [same], tracker⟩
  sched _ _ h := h
  timeBase s x state count h := by
    obtain ⟨requests, events, tracker⟩ := h
    exact ⟨requests, events, by unfold TimeBase.TrackerHeld at *; rwa [state, count]⟩
  line _ _ _ h := h
  stations _ _ _ h := h
  lists _ _ _ _ h := h
  commit _ _ h := h
  freshCount _ _ h := h
  fill _ _ _ h := h
  publish _ h := h
  exchange _ _ i _ _ _ _ _ rep _ _ _ h := queuesLaw_applyExchange i rep h
  complete s r q c queue place h := by
    obtain ⟨requests, others⟩ := h
    exact ⟨queuesHeld_completeHead c queue place requests, others⟩
  head s r q r' queue place flying h := by
    obtain ⟨requests, others⟩ := h
    exact ⟨queuesHeld_replaceHead queue place flying requests, others⟩

/-- START's first effects: the cycle number and the posted cycle of every request become 0 (R163). -/
def startPosted (s : State) : State :=
  { s with
    sched.cycle := 0
    reqs.queue := s.reqs.queue.map fun r => { r with postedCycle := 0 } }

/-- START's other effects come after a pending switch has been applied (R163). -/
theorem startRun_eq (s : State) :
    startRun s = armTimeBase
      { (applySwitch (startPosted s)).mapStations Station.atStart with
        line.engine := .idle, line.quiet := some 0, line.collisionRun := 0,
        sched.phase := .awaitFirst, sched.ctrl := .running } := rfl

theorem queuesLaw_startRun {s : State} (h : s.QueuesLaw) : (startRun s).QueuesLaw := by
  obtain ⟨requests, events, tracker⟩ := h
  have posted : (startPosted s).QueuesLaw := ⟨queuesHeld_posted 0 requests, events, tracker⟩
  have mapped : ((applySwitch (startPosted s)).mapStations Station.atStart).QueuesLaw :=
    (runKeeps_queues.applySwitch posted).of_eq (by simp) (by simp) (by simp)
  rw [startRun_eq]
  generalize (applySwitch (startPosted s)).mapStations Station.atStart = b at mapped ⊢
  exact queuesLaw_armTimeBase mapped

theorem queuesLaw_softReset {s : State} (_ : s.QueuesLaw) : (softResetRun s).QueuesLaw :=
  ⟨queuesHeld_empty rfl rfl, Nat.zero_le _, trackerHeld_mode s.tb.external rfl rfl⟩

theorem queuesLaw_stopRun {s : State} (h : s.QueuesLaw) : (stopRun s).QueuesLaw := by
  unfold stopRun
  dsimp only
  split
  · exact runKeeps_queues.drainEnd h
  · exact h

theorem queuesLaw_disableRun {s : State} (i : Slot) (h : s.QueuesLaw) : (disableRun i s).QueuesLaw := by
  unfold disableRun markDisabled
  dsimp only
  split
  · exact h
  · rename_i r inFlight
    split
    · exact runKeeps_queues.replaceInFlight (s := s.modifyStation i Station.disable) inFlight
        (RunKeeps.requestInFlight_eq_some inFlight).1 h
    · exact h

theorem queuesLaw_cancelInFlight {s : State} {r : Request} (inFlight : s.requestInFlight = some r)
    (h : s.QueuesLaw) : (cancelInFlight r s).QueuesLaw := by
  unfold cancelInFlight
  split
  · exact runKeeps_queues.replaceInFlight inFlight (RunKeeps.requestInFlight_eq_some inFlight).1 h
  · exact runKeeps_queues.completeInFlight _ inFlight h

theorem queuesLaw_accepted {s t : State} (h : s.QueuesLaw) (done : Accepted s t) : t.QueuesLaw := by
  have ⟨requests, events, tracker⟩ := h
  cases done
  case start => exact queuesLaw_startRun h
  case stop => exact queuesLaw_stopRun h
  case softReset => exact queuesLaw_softReset h
  case disableStation i _ => exact queuesLaw_disableRun i h
  case post room =>
    exact runKeeps_queues.quietAdmission ⟨queuesHeld_post room rfl rfl requests, events, tracker⟩
  case cancelInFlight r inFlight =>
    exact runKeeps_queues.quietAdmission (queuesLaw_cancelInFlight inFlight h)
  case withdraw tag r rest found place =>
    obtain ⟨a, b, queue, rfl, -, waits⟩ := withdraw_eq_some found
    exact runKeeps_queues.quietAdmission
      ⟨queuesHeld_withdraw (reqs := s.reqs) _ queue waits place requests, events, tracker⟩
  case popCompletion c cs completions =>
    exact runKeeps_queues.quietAdmission ⟨queuesHeld_pop completions requests, events, tracker⟩
  case popEvent e es queue =>
    refine ⟨requests, ?_, tracker⟩
    unfold Events.QueueHeld at *
    rw [queue] at events
    exact Nat.le_of_succ_le events
  all_goals exact h

theorem queuesLaw_written {s t : State} (h : s.QueuesLaw) (done : Written s t) : t.QueuesLaw := by
  have ⟨requests, events, tracker⟩ := h
  cases done
  case config r w _ =>
    unfold storeConfig takeWord
    (repeat' split) <;> exact h
  case syncMode p _ => exact ⟨requests, events, trackerHeld_mode p.1 rfl rfl⟩
  all_goals exact h

theorem stepKeeps_queues : StepKeeps State.QueuesLaw where
  toRunKeeps := runKeeps_queues
  pending _ _ h := h
  freeCount _ _ h := h
  port _ _ _ h := h
  advance _ h := h
  reset _ _ _ h := h
  resetLow _ _ := ⟨queuesHeld_empty rfl rfl, Nat.zero_le _, rfl⟩
  clearEnd _ h := h
  locked _ h := ⟨h.1, h.2.1, rfl⟩
  missed _ due h := queuesLaw_countMiss due h
  command _ _ h done := queuesLaw_accepted h done
  write _ _ h done := queuesLaw_written h done

/-- Settles O57: `stepKeeps_queues` says it of each thing a step can do. -/
theorem everyStepKeepsQueuesAndTracker : Obligations.EveryStepKeepsQueuesAndTracker := by
  unfold Obligations.EveryStepKeepsQueuesAndTracker
  intro s t requests events tracker stepped
  have held : s.QueuesLaw := ⟨requests, events, tracker⟩
  exact stepKeeps_queues.keeps.step held stepped

end Sys2Proof.Machine
end

section
/-! R22, R27, R28, R33, R38, R45: the laws of the station table and the ranges of the exchange lists, which
every step keeps. -/

namespace Sys2Proof.Machine

/-- The laws of the station table, with the exchange in hand, and the ranges of the lists. -/
def State.StationsLaw (s : State) : Prop := s.TableHeld ∧ s.HealthHeld ∧ s.lists.InRange

theorem State.StationsLaw.of_eq {s t : State} (h : s.StationsLaw) (stations : t.stations = s.stations)
    (piece : t.line.piece = s.line.piece) (lists : t.lists = s.lists) : t.StationsLaw := by
  unfold State.StationsLaw State.TableHeld State.HealthHeld State.station at *
  rwa [stations, piece, lists]

/-! ## The table -/

/-- Two records with one configuration; `enabled` is no part of it. -/
def Station.SameConfig (r q : Station) : Prop :=
  q.address = r.address ∧ q.outLen = r.outLen ∧ q.outOffset = r.outOffset ∧ q.inLen = r.inLen
    ∧ q.inOffset = r.inOffset ∧ q.missLimit = r.missLimit ∧ q.probeInterval = r.probeInterval

theorem Station.SameConfig.refl (r : Station) : r.SameConfig r := ⟨rfl, rfl, rfl, rfl, rfl, rfl, rfl⟩

theorem Station.SameLaws.config {r q : Station} (h : r.SameLaws q) : r.SameConfig q := by
  obtain ⟨address, outLen, outOffset, inLen, inOffset, limit, interval, -⟩ := h
  exact ⟨address, outLen, outOffset, inLen, inOffset, limit, interval⟩

theorem Station.SameLaws.enabled {r q : Station} (h : r.SameLaws q) : q.enabled = r.enabled := by
  obtain ⟨-, -, -, -, -, -, -, enabled, -⟩ := h
  exact enabled

theorem Station.SameConfig.inRange {r q : Station} (h : r.SameConfig q) (range : r.InRange) :
    q.InRange := by
  obtain ⟨address, outLen, -, inLen, -, limit, interval⟩ := h
  unfold Station.InRange
  rwa [address, outLen, inLen, limit, interval]

theorem Station.SameConfig.areasFit {r q : Station} (h : r.SameConfig q) : q.areasFit = r.areasFit := by
  obtain ⟨-, outLen, outOffset, inLen, inOffset, -⟩ := h
  unfold Station.areasFit
  rw [outLen, outOffset, inLen, inOffset]

theorem Station.SameConfig.overlaps {r q r' q' : Station} (h : r.SameConfig q) (h' : r'.SameConfig q') :
    q.overlaps q' = r.overlaps r' := by
  obtain ⟨-, outLen, outOffset, inLen, inOffset, -⟩ := h
  obtain ⟨-, outLen', outOffset', inLen', inOffset', -⟩ := h'
  unfold Station.overlaps
  rw [outLen, outOffset, inLen, inOffset, outLen', outOffset', inLen', inOffset']

/-- The table's law with its configuration kept and no station enabled beside those that were. -/
theorem tableHeld_of_sameConfig {s t : State} (config : ∀ i, (s.station i).SameConfig (t.station i))
    (enabled : ∀ i, (t.station i).enabled = true → (s.station i).enabled = true) (held : s.TableHeld) :
    t.TableHeld := by
  obtain ⟨range, fit, apart⟩ := held
  refine ⟨fun i => (config i).inRange (range i), fun i on => ?_, fun i j ne oni onj => ?_⟩
  · rw [(config i).areasFit]
    exact fit i (enabled i on)
  · obtain ⟨address, areas⟩ := apart i j ne (enabled i oni) (enabled j onj)
    rw [(config i).1, (config j).1, (config i).overlaps (config j)]
    exact ⟨address, areas⟩

theorem sameConfig_setStation {s : State} {i : Slot} {r : Station} (h : (s.station i).SameConfig r)
    (j : Slot) : (s.station j).SameConfig ((s.setStation i r).station j) := by
  rw [station_setStation]
  split
  · rename_i same
    exact same ▸ h
  · exact .refl _

/-- A station that passed the checks of ENABLE_STATION joins the enabled ones (R27, R28, R29). -/
theorem tableHeld_enable {s : State} {i : Slot} (fits : (s.station i).areasFit = true)
    (address : s.addressFree i = true) (areas : s.areasFree i = true) (held : s.TableHeld) :
    (s.modifyStation i Station.enable).TableHeld := by
  have config : ∀ j, (s.station j).SameConfig ((s.modifyStation i Station.enable).station j) :=
    sameConfig_setStation ⟨rfl, rfl, rfl, rfl, rfl, rfl, rfl⟩
  have before : ∀ j, j ≠ i → ((s.modifyStation i Station.enable).station j).enabled = true →
      (s.station j).enabled = true := by
    intro j other on
    rwa [station_modifyStation, if_neg other] at on
  rw [addressFree_iff] at address
  rw [areasFree_iff] at areas
  obtain ⟨range, fit, apart⟩ := held
  refine ⟨fun j => (config j).inRange (range j), fun j on => ?_, fun j k ne onj onk => ?_⟩
  · rw [(config j).areasFit]
    by_cases same : j = i
    · rw [same]
      exact fits
    · exact fit j (before j same on)
  · rw [(config j).1, (config k).1, (config j).overlaps (config k)]
    by_cases samej : j = i
    · subst samej
      have on := before k ne.symm onk
      exact ⟨(address k ne.symm on).symm, areas k ne.symm on⟩
    · have wasOn := before j samej onj
      by_cases samek : k = i
      · subst samek
        exact ⟨address j samej wasOn, by rw [overlaps_symm]; exact areas j samej wasOn⟩
      · exact apart j k ne wasOn (before k samek onk)

/-- A disabled record takes any configuration in range: the clauses about areas and addresses are about
enabled stations (R22). -/
theorem tableHeld_configure {s : State} {i : Slot} {r : Station} (range : r.InRange)
    (off : r.enabled = false) (held : s.TableHeld) : (s.setStation i r).TableHeld := by
  obtain ⟨ranges, fit, apart⟩ := held
  have on {j : Slot} (h : ((s.setStation i r).station j).enabled = true) : j ≠ i := by
    rintro rfl
    rw [station_setStation, if_pos rfl, off] at h
    cases h
  refine ⟨fun j => ?_, fun j onj => ?_, fun j k ne onj onk => ?_⟩
  · rw [station_setStation]
    split
    · exact range
    · exact ranges j
  · have other := on onj
    rw [station_setStation, if_neg other] at onj ⊢
    exact fit j onj
  · have otherj := on onj
    have otherk := on onk
    rw [station_setStation, if_neg otherj] at onj ⊢
    rw [station_setStation, if_neg otherk] at onk ⊢
    exact apart j k ne onj onk

/-! ## Health -/

theorem Station.SameLaws.healthLaw {r q : Station} (h : r.SameLaws q) (law : r.HealthLaw) :
    q.HealthLaw := by
  obtain ⟨-, -, -, -, -, limit, -, enabled, health, miss⟩ := h
  unfold Station.HealthLaw
  rwa [limit, enabled, health, miss]

/-- A record with miss count 0 is enabled and neither LOST nor OFFLINE. -/
theorem Station.healthLaw_of_enabled {r : Station} (limit : r.missLimit ≠ 0) (on : r.enabled = true)
    (miss : r.consecutiveMiss = 0) (lost : r.health ≠ .lost) (offline : r.health ≠ .offline) :
    r.HealthLaw := by
  refine ⟨limit, fun _ => ⟨⟨fun h => absurd h lost, fun h => ?_⟩, offline⟩, fun off => ?_⟩
  · exact absurd (h.symm.trans miss) limit
  · exact absurd on (by simp [off])

theorem healthLaw_afterGood {r : Station} (flags : BitVec 4) (time : Time) (cycle : Word)
    (on : r.enabled = true) (law : r.HealthLaw) : (r.afterGood flags time cycle).HealthLaw :=
  Station.healthLaw_of_enabled law.1 on rfl (by simp [Station.afterGood]) (by simp [Station.afterGood])

theorem healthLaw_enable {r : Station} (law : r.HealthLaw) : r.enable.HealthLaw :=
  Station.healthLaw_of_enabled law.1 rfl rfl (by simp [Station.enable]) (by simp [Station.enable])

theorem healthLaw_disable {r : Station} (law : r.HealthLaw) : r.disable.HealthLaw :=
  Station.healthLaw_of_disabled law.1 rfl rfl rfl

theorem healthLaw_atStart {r : Station} (law : r.HealthLaw) : r.atStart.HealthLaw := by
  unfold Station.atStart
  split
  · rename_i on
    exact Station.healthLaw_of_enabled law.1 on rfl (by simp) (by simp)
  · exact law

theorem healthLaw_atSoftReset {r : Station} (law : r.HealthLaw) : r.atSoftReset.HealthLaw := by
  cases on : r.enabled
  · exact Station.healthLaw_of_disabled law.1 on (by simp [Station.atSoftReset, on]) rfl
  · exact Station.healthLaw_of_enabled law.1 on rfl (by simp [Station.atSoftReset, on])
      (by simp [Station.atSoftReset, on])

/-- A station that becomes LOST has reached its miss_limit with this failure (R37, R38). -/
theorem healthLaw_lost {r : Station} (timedOut : Bool) (interval : Byte) (on : r.enabled = true)
    (reached : r.nextMiss = r.missLimit) (law : r.HealthLaw) :
    ({ r.afterFailure timedOut with health := .lost, probeCountdown := interval } : Station).HealthLaw := by
  refine ⟨law.1, fun _ => ⟨⟨fun _ => reached, fun _ => rfl⟩, by simp⟩, fun off => ?_⟩
  exact absurd on (by simp [show r.enabled = false from off])

theorem healthLaw_suspect {r : Station} (timedOut : Bool) (on : r.enabled = true)
    (below : r.nextMiss ≠ r.missLimit) (law : r.HealthLaw) :
    ({ r.afterFailure timedOut with health := .suspect } : Station).HealthLaw := by
  refine ⟨law.1, fun _ => ⟨⟨fun lost => by simp at lost, fun h => absurd h below⟩, by simp⟩, fun off => ?_⟩
  exact absurd on (by simp [show r.enabled = false from off])

/-- A LOST station's count stays at its miss_limit (R37). -/
theorem nextMiss_of_lost {r : Station} (on : r.enabled = true) (lost : r.health = .lost)
    (law : r.HealthLaw) : r.nextMiss = r.missLimit := by
  have count : r.consecutiveMiss = r.missLimit := (law.2.1 on).1.mp lost
  unfold Station.nextMiss
  rw [if_pos count, count]

/-- A failure that changes no health meets a LOST station, or one below its limit that is not ACTIVE. -/
theorem healthLaw_afterFailure {r : Station} (timedOut : Bool) (on : r.enabled = true)
    (reached : r.nextMiss = r.missLimit → r.health = .lost) (law : r.HealthLaw) :
    (r.afterFailure timedOut).HealthLaw := by
  have notOffline : r.health ≠ .offline := (law.2.1 on).2
  refine ⟨law.1, fun _ => ⟨⟨fun lost => nextMiss_of_lost on lost law, reached⟩, notOffline⟩, fun off => ?_⟩
  exact absurd on (by simp [show r.enabled = false from off])

/-! ## The exchange in hand -/

/-- What ExchangeLive says of a piece: one that is for a station, and not discarded, has it enabled. -/
theorem exchangeLive_some {p : Piece} {v : Vector Station 32} :
    ExchangeLive (some p) v ↔
      ∀ i a k first stale payload, p.work = .exchange i a k first stale payload → p.discard = false →
        v[i].enabled = true := by
  unfold ExchangeLive
  dsimp only
  split
  · rename_i i a k first stale payload work
    refine ⟨fun live i' _ _ _ _ _ same => ?_, fun all => all i a k first stale payload work⟩
    rw [work] at same
    cases same
    exact live
  · simp_all
  · simp_all

theorem exchangeLive_of_claim {l l' : LineEngine} {v : Vector Station 32} (claim : l'.claim = l.claim)
    (live : ExchangeLive l.piece v) : ExchangeLive l'.piece v := by
  unfold LineEngine.claim at claim
  cases after : l'.piece with
  | none => trivial
  | some p' =>
    cases before : l.piece with
    | none => simp [after, before] at claim
    | some p =>
      have same : p'.claim = p.claim := by simpa [after, before] using claim
      obtain ⟨work, discard⟩ := Prod.mk.inj same
      rw [before, exchangeLive_some] at live
      rw [exchangeLive_some]
      intro i a k first stale payload call kept
      exact live i a k first stale payload (work ▸ call) (discard ▸ kept)

theorem exchangeLive_of_pieceKept {s : State} {l : LineEngine} (kept : PieceKept s l)
    (live : ExchangeLive s.line.piece s.stations) : ExchangeLive l.piece s.stations := by
  rcases kept with released | claim | ⟨p, piece, callable⟩
  · rw [released]
    trivial
  · exact exchangeLive_of_claim claim live
  · rw [piece, exchangeLive_some]
    intro i a k first stale payload call _
    exact callable i a k first stale payload call

/-- Enabling stations, or none, keeps an exchange in hand live. -/
theorem exchangeLive_of_enabled {o : Option Piece} {v w : Vector Station 32}
    (enabled : ∀ i : Slot, v[i].enabled = true → w[i].enabled = true) (live : ExchangeLive o v) :
    ExchangeLive o w := by
  cases o with
  | none => trivial
  | some p =>
    rw [exchangeLive_some] at *
    intro i a k first stale payload call kept
    exact enabled i (live i a k first stale payload call kept)

/-! ## One record replaced -/

/-- A record replaced by one with its configuration and a health of its own. -/
theorem stationsLaw_setStation {s : State} {i : Slot} {r : Station} (config : (s.station i).SameConfig r)
    (enabled : r.enabled = (s.station i).enabled) (law : r.HealthLaw) (h : s.StationsLaw) :
    (s.setStation i r).StationsLaw := by
  obtain ⟨table, ⟨health, live⟩, lists⟩ := h
  have same (j : Slot) : ((s.setStation i r).station j).enabled = (s.station j).enabled := by
    rw [station_setStation]
    split
    · rename_i this
      rw [this]
      exact enabled
    · rfl
  refine ⟨tableHeld_of_sameConfig (sameConfig_setStation config) (fun j on => same j ▸ on) table,
    ⟨fun j => ?_, exchangeLive_of_enabled (fun j on => (same j).trans on) live⟩, lists⟩
  rw [station_setStation]
  split
  · exact law
  · exact health j

theorem stationsLaw_stations {s : State} {v : Vector Station 32}
    (same : ∀ i : Slot, (s.station i).SameLaws v[i]) (h : s.StationsLaw) :
    ({ s with stations := v } : State).StationsLaw := by
  obtain ⟨table, ⟨health, live⟩, lists⟩ := h
  exact ⟨tableHeld_of_sameConfig (fun i => (same i).config) (fun i on => (same i).enabled.symm.trans on) table,
    ⟨fun i => (same i).healthLaw (health i),
      exchangeLive_of_enabled (fun i on => (same i).enabled.trans on) live⟩, lists⟩

theorem stationsLaw_notify {s : State} (c : EventCode) (b : Byte) (n d : Word) (h : s.StationsLaw) :
    (notify c b n d s).StationsLaw :=
  h.of_eq (by simp) (by simp) (by simp)

/-! ## The outcome of an exchange -/

theorem stationsLaw_applyGoodReply {s : State} {i : Slot} (flags : BitVec 4) (time : Time)
    (on : (s.station i).enabled = true) (h : s.StationsLaw) : (applyGoodReply i flags time s).StationsLaw := by
  have law : (s.station i).HealthLaw := h.2.1.1 i
  have stored := stationsLaw_setStation (r := (s.station i).afterGood flags time s.sched.cycle)
    ⟨rfl, rfl, rfl, rfl, rfl, rfl, rfl⟩ rfl (healthLaw_afterGood flags time _ on law) h
  have posted : (postGoodHealth i (s.station i).health
      (s.setStation i ((s.station i).afterGood flags time s.sched.cycle))).StationsLaw :=
    stored.of_eq (by simp) (by simp) (by simp)
  unfold applyGoodReply
  dsimp only
  split
  · exact stationsLaw_notify _ _ _ _ posted
  · exact posted

theorem stationsLaw_applyFailure {s : State} {i : Slot} (timedOut : Bool)
    (on : (s.station i).enabled = true) (h : s.StationsLaw) : (applyFailure i timedOut s).StationsLaw := by
  have law : (s.station i).HealthLaw := h.2.1.1 i
  unfold applyFailure
  dsimp only
  split
  · rename_i lost
    exact stationsLaw_notify _ _ _ _ (stationsLaw_setStation ⟨rfl, rfl, rfl, rfl, rfl, rfl, rfl⟩ rfl
      (healthLaw_lost timedOut _ on lost.1 law) h)
  · rename_i notLost
    split
    · rename_i suspect
      exact stationsLaw_notify _ _ _ _ (stationsLaw_setStation ⟨rfl, rfl, rfl, rfl, rfl, rfl, rfl⟩ rfl
        (healthLaw_suspect timedOut on suspect.1 law) h)
    · refine stationsLaw_setStation ⟨rfl, rfl, rfl, rfl, rfl, rfl, rfl⟩ rfl
        (healthLaw_afterFailure timedOut on (fun reached => ?_) law) h
      by_contra other
      exact notLost ⟨reached, other⟩

theorem stationsLaw_applyExchange {s : State} {i : Slot} (rep : Report)
    (on : (s.station i).enabled = true) (h : s.StationsLaw) : (applyExchange i rep s).StationsLaw := by
  unfold applyExchange
  split
  case h_1 => exact stationsLaw_applyGoodReply _ _ on h
  case h_5 => exact h
  all_goals exact stationsLaw_applyFailure _ on h

/-! ## The lists -/

/-- The divisor and the phase of an entry are in range (R45, R47). -/
def ListEntry.InRange (e : ListEntry) : Prop :=
  1 ≤ e.divisor.toNat ∧ e.divisor.toNat ≤ 16 ∧ e.phase.toNat < e.divisor.toNat

theorem inRange_of_entryOfWord {w : Word} {e : ListEntry} (h : entryOfWord w = some e) : e.InRange := by
  unfold entryOfWord at h
  dsimp only at h
  split at h
  · rename_i valid
    cases h
    exact valid.2
  · cases h

theorem le_of_lengthOfWord {w : Word} {n : BitVec 7} (h : lengthOfWord w = some n) : n.toNat ≤ 64 := by
  unfold lengthOfWord at h
  split at h
  · rename_i inside
    cases h
    rw [BitVec.extractLsb'_toNat, Nat.shiftRight_zero]
    exact (Nat.mod_le _ _).trans inside
  · cases h

theorem Lists.InRange.shadow {l : Lists} (h : l.InRange) : l.shadowList.InRange := by
  unfold Lists.shadowList
  split
  · exact h.1
  · exact h.2

theorem Lists.InRange.setShadow {l : Lists} {x : ExchangeList} (new : x.InRange) (h : l.InRange) :
    (l.setShadow x).InRange := by
  unfold Lists.setShadow
  split
  · exact ⟨new, h.2⟩
  · exact ⟨h.1, new⟩

theorem lists_inRange_setEntry {s : State} {e : ListEntry} (entry : e.InRange) (h : s.lists.InRange) :
    (setShadowEntry e s).lists.InRange := by
  obtain ⟨len, entries⟩ := h.shadow
  refine Lists.InRange.setShadow ⟨len, fun k => ?_⟩ h
  rw [Fin.getElem_fin, Vector.getElem_set]
  split
  · exact entry
  · exact entries k

theorem exchangeList_inRange_default : ({} : ExchangeList).InRange := by
  refine ⟨by decide, fun k => ?_⟩
  rw [Fin.getElem_fin, Vector.getElem_replicate]
  decide

/-! ## What a step does to them -/

theorem runKeeps_stations : RunKeeps State.StationsLaw where
  notice _ _ _ _ _ h := stationsLaw_notify _ _ _ _ h
  flags _ _ _ h := h
  sched _ _ h := h
  timeBase _ _ _ _ h := h
  line s l kept h := by
    obtain ⟨table, ⟨health, live⟩, lists⟩ := h
    have stillLive := exchangeLive_of_pieceKept kept live
    exact ⟨table, ⟨health, stillLive⟩, lists⟩
  stations _ _ same h := stationsLaw_stations same h
  lists s x first second h := by
    obtain ⟨table, health, range⟩ := h
    exact ⟨table, health, by unfold Lists.InRange at *; rwa [first, second]⟩
  commit _ _ h := h
  freshCount _ _ h := h
  fill _ _ _ h := h
  publish _ h := h
  exchange s p i a k first stale payload rep piece call kept h := by
    obtain ⟨table, ⟨health, live⟩, lists⟩ := h
    rw [piece, exchangeLive_some] at live
    exact stationsLaw_applyExchange rep (live i a k first stale payload call kept)
      ⟨table, ⟨health, trivial⟩, lists⟩
  complete _ _ _ _ _ _ h := h
  head _ _ _ _ _ _ _ h := h

theorem getElem_mapStations (f : Station → Station) (s : State) (i : Slot) :
    (s.mapStations f).stations[i] = f s.stations[i] :=
  station_mapStations i f s

theorem stationsLaw_mapStations {s : State} {f : Station → Station}
    (config : ∀ r : Station, r.SameConfig (f r)) (enabled : ∀ r : Station, (f r).enabled = r.enabled)
    (law : ∀ r : Station, r.HealthLaw → (f r).HealthLaw) (h : s.StationsLaw) :
    (s.mapStations f).StationsLaw := by
  obtain ⟨table, ⟨health, live⟩, lists⟩ := h
  have after (i : Slot) : (s.mapStations f).station i = f (s.station i) := station_mapStations i f s
  refine ⟨?table, ⟨?health, ?live⟩, ?lists⟩
  case table =>
    refine tableHeld_of_sameConfig (fun i => ?_) (fun i h => ?_) table
    · rw [after]
      exact config _
    · rwa [after, enabled] at h
  case health =>
    intro i
    rw [after]
    exact law _ (health i)
  case live =>
    rw [mapStations_line]
    have stillOn : ∀ i : Slot, s.stations[i].enabled = true →
        (s.mapStations f).stations[i].enabled = true := by
      intro i h
      rwa [getElem_mapStations, enabled]
    exact exchangeLive_of_enabled stillOn live
  case lists =>
    rw [mapStations_lists]
    exact lists

theorem sameConfig_atStart (r : Station) : r.SameConfig r.atStart := by
  unfold Station.atStart
  split <;> exact ⟨rfl, rfl, rfl, rfl, rfl, rfl, rfl⟩

theorem enabled_atStart (r : Station) : r.atStart.enabled = r.enabled := by
  unfold Station.atStart
  split <;> rfl

theorem stationsLaw_startRun {s : State} (h : s.StationsLaw) : (startRun s).StationsLaw := by
  have posted : (startPosted s).StationsLaw := h
  have mapped := stationsLaw_mapStations sameConfig_atStart enabled_atStart (fun _ => healthLaw_atStart)
    (runKeeps_stations.applySwitch posted)
  rw [startRun_eq]
  generalize (applySwitch (startPosted s)).mapStations Station.atStart = b at mapped ⊢
  unfold armTimeBase
  split <;> exact mapped

theorem stationsLaw_softReset {s : State} (h : s.StationsLaw) : (softResetRun s).StationsLaw := by
  have cut : (engineOff s).StationsLaw := runKeeps_stations.engineOff h
  have off : (resetLine s).StationsLaw := cut
  have mapped := stationsLaw_mapStations (f := Station.atSoftReset)
    (fun _ => ⟨rfl, rfl, rfl, rfl, rfl, rfl, rfl⟩) (fun _ => rfl) (fun _ => healthLaw_atSoftReset) off
  unfold softResetRun
  generalize (resetLine s).mapStations Station.atSoftReset = b at mapped ⊢
  exact mapped

theorem stationsLaw_stopRun {s : State} (h : s.StationsLaw) : (stopRun s).StationsLaw := by
  unfold stopRun
  dsimp only
  split
  · exact runKeeps_stations.drainEnd h
  · exact h

theorem stationsLaw_enable {s : State} {i : Slot} (fits : (s.station i).areasFit = true)
    (address : s.addressFree i = true) (areas : s.areasFree i = true) (h : s.StationsLaw) :
    (s.modifyStation i Station.enable).StationsLaw := by
  obtain ⟨table, ⟨health, live⟩, lists⟩ := h
  refine ⟨tableHeld_enable fits address areas table, ⟨fun j => ?_, ?_⟩, lists⟩
  · rw [station_modifyStation]
    split
    · exact healthLaw_enable (health i)
    · exact health j
  · refine exchangeLive_of_enabled (fun j on => ?_) live
    show ((s.modifyStation i Station.enable).station j).enabled = true
    rw [station_modifyStation]
    split
    · rfl
    · exact on

/-- With its station disabled, the exchange for the slot is marked for discard (R33). -/
theorem exchangeLive_markDiscard {s : State} (i : Slot)
    (live : ExchangeLive s.line.piece s.stations) :
    ExchangeLive (s.line.piece.map (markDiscard i)) (s.modifyStation i Station.disable).stations := by
  cases piece : s.line.piece with
  | none => trivial
  | some p =>
    rw [piece, exchangeLive_some] at live
    rw [Option.map_some, exchangeLive_some]
    intro j a k first stale payload call kept
    show ((s.modifyStation i Station.disable).station j).enabled = true
    unfold markDiscard at call kept
    rw [station_modifyStation]
    split at call
    · rename_i j' _ _ _ _ _ work
      split at call
      · rename_i same
        simp [work, same] at kept
      · rename_i other
        rw [work] at call
        cases call
        rw [if_neg other]
        exact live j a k first stale payload work (by simpa [work, other] using kept)
    · simp_all
    · simp_all

theorem stationsLaw_disableRun {s : State} (i : Slot) (h : s.StationsLaw) : (disableRun i s).StationsLaw := by
  obtain ⟨table, ⟨health, live⟩, lists⟩ := h
  have marked := markDisabled_frame i (s.modifyStation i Station.disable)
  have disabled : ({ s.modifyStation i Station.disable with
      line.piece := s.line.piece.map (markDiscard i) } : State).StationsLaw := by
    refine ⟨tableHeld_of_sameConfig (sameConfig_setStation ⟨rfl, rfl, rfl, rfl, rfl, rfl, rfl⟩)
      (fun j on => ?_) table, ⟨fun j => ?_, exchangeLive_markDiscard i live⟩, lists⟩
    · have on : ((s.modifyStation i Station.disable).station j).enabled = true := on
      rw [station_modifyStation] at on
      split at on
      · cases on
      · exact on
    · show ((s.modifyStation i Station.disable).station j).HealthLaw
      rw [station_modifyStation]
      split
      · exact healthLaw_disable (health i)
      · exact health j
  exact disabled.of_eq (by simp [disableRun]) (by simp [disableRun]) (by simp [disableRun])

theorem cancelInFlight_laws (r : Request) (s : State) :
    (cancelInFlight r s).stations = s.stations ∧ (cancelInFlight r s).line = s.line
      ∧ (cancelInFlight r s).lists = s.lists := by
  unfold cancelInFlight
  split <;> exact ⟨rfl, rfl, rfl⟩

theorem stationsLaw_accepted {s t : State} (h : s.StationsLaw) (done : Accepted s t) : t.StationsLaw := by
  cases done
  case start => exact stationsLaw_startRun h
  case stop => exact stationsLaw_stopRun h
  case softReset => exact stationsLaw_softReset h
  case enableStation i _ fits address areas _ => exact stationsLaw_enable fits address areas h
  case disableStation i _ => exact stationsLaw_disableRun i h
  case clearStation i =>
    exact runKeeps_stations.setStation ⟨rfl, rfl, rfl, rfl, rfl, rfl, rfl, rfl, rfl, rfl⟩ h
  case post => exact runKeeps_stations.quietAdmission h
  case cancelInFlight r _ =>
    obtain ⟨stations, line, lists⟩ := cancelInFlight_laws r s
    exact runKeeps_stations.quietAdmission (h.of_eq stations (congrArg LineEngine.piece line) lists)
  case withdraw => exact runKeeps_stations.quietAdmission h
  case popCompletion => exact runKeeps_stations.quietAdmission h
  all_goals exact h

/-! ## The writes of the station registers -/

theorem inRange_addressOfWord {w : Word} {a : BitVec 6} (h : addressOfWord w = some a) : a ≠ 0 := by
  unfold addressOfWord at h
  split at h
  · rename_i inside
    cases h
    rw [Ne, ← BitVec.toNat_inj, BitVec.extractLsb'_toNat, Nat.shiftRight_zero]
    show ¬ w.toNat % 64 = 0
    omega
  · cases h

theorem inRange_areaOfWord {w : Word} {p : BitVec 6 × BitVec 10} (h : areaOfWord w = some p) :
    p.1.toNat ≤ 32 := by
  unfold areaOfWord at h
  split at h
  · rename_i inside
    cases h
    exact inside
  · cases h

theorem inRange_limitsOfWord {w : Word} {p : BitVec 4 × Byte} (h : limitsOfWord w = some p) :
    p.1 ≠ 0 ∧ p.2 ≠ 0 := by
  unfold limitsOfWord at h
  split at h
  · rename_i inside
    cases h
    exact inside.2
  · cases h

/-- A configured record is in range, and its dynamic fields are those of before (R22). -/
theorem configured_inRange {r q : Station} {reg : StationReg} {w : Word}
    (h : r.configured reg w = some q) (range : r.InRange) :
    q.InRange ∧ q.enabled = r.enabled ∧ q.health = r.health ∧ q.consecutiveMiss = r.consecutiveMiss := by
  obtain ⟨address, outLen, inLen, limit, interval⟩ := range
  cases reg <;> obtain ⟨v, word, rfl⟩ := Option.map_eq_some_iff.mp h
  case stnAddr => exact ⟨⟨inRange_addressOfWord word, outLen, inLen, limit, interval⟩, rfl, rfl, rfl⟩
  case stnOut => exact ⟨⟨address, inRange_areaOfWord word, inLen, limit, interval⟩, rfl, rfl, rfl⟩
  case stnIn => exact ⟨⟨address, outLen, inRange_areaOfWord word, limit, interval⟩, rfl, rfl, rfl⟩
  case stnLimits =>
    obtain ⟨newLimit, newInterval⟩ := inRange_limitsOfWord word
    exact ⟨⟨address, outLen, inLen, newLimit, newInterval⟩, rfl, rfl, rfl⟩

theorem stationsLaw_configure {s : State} {i : Slot} {reg : StationReg} {w : Word} {q : Station}
    (off : (s.station i).enabled = false) (stored : (s.station i).configured reg w = some q)
    (h : s.StationsLaw) : (s.setStation i q).StationsLaw := by
  obtain ⟨table, ⟨health, live⟩, lists⟩ := h
  obtain ⟨range, enabled, sameHealth, miss⟩ := configured_inRange stored (table.1 i)
  obtain ⟨offline, zero⟩ := (health i).2.2 off
  have disabled : q.enabled = false := enabled.trans off
  refine ⟨tableHeld_configure range disabled table, ⟨fun j => ?_, ?_⟩, lists⟩
  · rw [station_setStation]
    split
    · obtain ⟨-, -, -, limit, -⟩ := range
      exact Station.healthLaw_of_disabled limit disabled (sameHealth.trans offline) (miss.trans zero)
    · exact health j
  · refine exchangeLive_of_enabled (fun j on => ?_) live
    show ((s.setStation i q).station j).enabled = true
    rw [station_setStation]
    split
    · rename_i same
      subst same
      exact enabled.trans on
    · exact on

theorem stationsLaw_written {s t : State} (h : s.StationsLaw) (done : Written s t) : t.StationsLaw := by
  cases done
  case station r w q off stored => exact stationsLaw_configure off stored h
  case listEntry w e _ entry =>
    obtain ⟨table, health, lists⟩ := h
    exact ⟨table, health, lists_inRange_setEntry (inRange_of_entryOfWord entry) lists⟩
  case listLen w n _ length =>
    obtain ⟨table, health, lists⟩ := h
    exact ⟨table, health, lists.setShadow ⟨le_of_lengthOfWord length, lists.shadow.2⟩⟩
  case config r w _ =>
    unfold storeConfig takeWord
    (repeat' split) <;> exact h
  all_goals exact h

theorem stepKeeps_stations : StepKeeps State.StationsLaw where
  toRunKeeps := runKeeps_stations
  pending _ _ h := h
  freeCount _ _ h := h
  port _ _ _ h := h
  advance _ h := h
  reset _ _ _ h := h
  resetLow _ _ :=
    ⟨tableHeld_powerOn, healthHeld_powerOn, exchangeList_inRange_default, exchangeList_inRange_default⟩
  clearEnd _ h := h
  locked _ h := h
  missed _ _ h := h.of_eq (by simp) (by simp) (by simp)
  command _ _ h done := stationsLaw_accepted h done
  write _ _ h done := stationsLaw_written h done

/-- Settles O58: `stepKeeps_stations` says it of each thing a step can do. -/
theorem everyStepKeepsStationsAndLists : Obligations.EveryStepKeepsStationsAndLists := by
  unfold Obligations.EveryStepKeepsStationsAndLists
  intro s t table health lists stepped
  have held : s.StationsLaw := ⟨table, health, lists⟩
  exact stepKeeps_stations.keeps.step held stepped

end Sys2Proof.Machine
end

section
/-! R57, R123, R135, R157, R158, R165, Tables 3-1 and 8-1: what the controller state, the phase, the engine and
the piece in hand have to do with each other, on a run and outside one, which every step keeps. -/

namespace Sys2Proof.Machine

/-! ## On a run, and outside one -/

/-- What holds on a run. -/
structure State.OnRunLaw (s : State) : Prop where
  ctrl : s.onRun
  engine : s.line.engine ≠ .off
  armed : s.tb.armed = true
  phase : s.sched.phase ≠ .none
  idle : s.line.piece.isSome ↔ s.line.engine ≠ .idle
  work : (s.line.piece.map fun p => p.work.phase)
    = (if s.sched.phase = .sync ∨ s.sched.phase = .cyclic ∨ s.sched.phase = .acyclic then
        some s.sched.phase
      else none)
  held : s.sched.held.isSome → s.sched.phase = .acyclic
  stopping : s.sched.ctrl = .stopping → s.line.piece.isSome ∧ s.sched.held = none
  clear : s.clear = none
  high : s.resetLow = false

/-- What holds outside a run. -/
structure State.OffRunLaw (s : State) : Prop where
  ctrl : ¬ s.onRun
  engine : s.line.engine = .off
  piece : s.line.piece = none
  rx : s.line.rx = none
  armed : s.tb.armed = false
  phase : s.sched.phase = .none
  held : s.sched.held = none
  reset : s.ResetHeld

/-- The law of the run and the law of the reset together: one of the two cases. -/
def State.RunLaw (s : State) : Prop := s.OnRunLaw ∨ s.OffRunLaw

theorem onRun_ne_resetting {s : State} (h : s.onRun) : s.sched.ctrl ≠ .resetting := by
  rcases h with running | stopping <;> simp_all

/-- Outside RESETTING the law of the reset says that no clear runs and RESETn is high. -/
theorem resetHeld_iff_of_ne {s : State} (h : s.sched.ctrl ≠ .resetting) :
    s.ResetHeld ↔ s.clear = none ∧ s.resetLow = false := by
  unfold State.ResetHeld
  simp [h]

theorem runLaw_iff (s : State) : s.RunLaw ↔ s.RunHeld ∧ s.ResetHeld := by
  constructor
  · rintro (on | off)
    · refine ⟨⟨fun _ => ⟨on.engine, on.armed, on.phase, on.idle, on.work, on.held, on.stopping⟩,
        fun h => absurd on.ctrl h⟩, ?_⟩
      exact (resetHeld_iff_of_ne (onRun_ne_resetting on.ctrl)).mpr ⟨on.clear, on.high⟩
    · exact ⟨⟨fun h => absurd h off.ctrl, fun _ =>
        ⟨off.engine, off.piece, off.rx, off.armed, off.phase, off.held⟩⟩, off.reset⟩
  · rintro ⟨⟨onRun, offRun⟩, reset⟩
    by_cases ctrl : s.onRun
    · obtain ⟨engine, armed, phase, idle, work, held, stopping⟩ := onRun ctrl
      obtain ⟨clear, high⟩ := (resetHeld_iff_of_ne (onRun_ne_resetting ctrl)).mp reset
      exact .inl ⟨ctrl, engine, armed, phase, idle, work, held, stopping, clear, high⟩
    · obtain ⟨engine, piece, rx, armed, phase, held⟩ := offRun ctrl
      exact .inr ⟨ctrl, engine, piece, rx, armed, phase, held, reset⟩

theorem State.RunLaw.on {s : State} (h : s.RunLaw) (engine : s.line.engine ≠ .off) : s.OnRunLaw :=
  h.resolve_right fun off => engine off.engine

theorem State.RunLaw.on_of_armed {s : State} (h : s.RunLaw) (armed : s.tb.armed = true) : s.OnRunLaw :=
  h.resolve_right fun off => by simp [off.armed] at armed

theorem State.RunLaw.on_of_rx {s : State} (h : s.RunLaw) {c : RxChar} (rx : s.line.rx = some c) :
    s.OnRunLaw :=
  h.resolve_right fun off => by simp [off.rx] at rx

/-- A served part is outside RESETTING: no clear runs and RESETn is high. -/
theorem State.RunLaw.served {s : State} (h : s.RunLaw) (serves : s.serves) :
    s.clear = none ∧ s.resetLow = false := by
  rcases h with on | off
  · exact ⟨on.clear, on.high⟩
  · exact (resetHeld_iff_of_ne serves.2).mp off.reset

/-! ## What the law does not rest on -/

/-- What a change of the line keeps of the engine and the piece, as the law of a run sees them. -/
structure EngineKept (l l' : LineEngine) : Prop where
  on : l'.engine ≠ .off
  idle : l'.engine = .idle ↔ l.engine = .idle
  work : (l'.piece.map fun p => p.work.phase) = l.piece.map fun p => p.work.phase

theorem isSome_of_map_eq {l l' : LineEngine}
    (work : (l'.piece.map fun p => p.work.phase) = l.piece.map fun p => p.work.phase) :
    l'.piece.isSome = l.piece.isSome := by
  simpa using congrArg Option.isSome work

theorem State.OnRunLaw.of_eq {s t : State} (h : s.OnRunLaw) (sched : t.sched = s.sched)
    (line : EngineKept s.line t.line) (armed : t.tb.armed = s.tb.armed) (clear : t.clear = s.clear)
    (low : t.resetLow = s.resetLow) : t.OnRunLaw where
  ctrl := by
    have ctrl := h.ctrl
    unfold State.onRun at *
    rwa [sched]
  engine := line.on
  armed := armed.trans h.armed
  phase := by rw [sched]; exact h.phase
  idle := by rw [isSome_of_map_eq line.work, Ne, line.idle]; exact h.idle
  work := by rw [sched, line.work]; exact h.work
  held := by rw [sched]; exact h.held
  stopping := by rw [sched, isSome_of_map_eq line.work]; exact h.stopping
  clear := clear.trans h.clear
  high := low.trans h.high

theorem EngineKept.of_line {s t : State} (h : s.OnRunLaw) (line : t.line = s.line) :
    EngineKept s.line t.line := by
  rw [line]
  exact ⟨h.engine, Iff.rfl, rfl⟩

/-- Outside RESETTING the law rests on these alone. -/
theorem State.RunLaw.of_eq {s t : State} (h : s.RunLaw) (serves : s.serves) (sched : t.sched = s.sched)
    (engine : t.line.engine = s.line.engine)
    (work : (t.line.piece.map fun p => p.work.phase) = s.line.piece.map fun p => p.work.phase)
    (rx : t.line.rx = s.line.rx) (armed : t.tb.armed = s.tb.armed) (clear : t.clear = s.clear)
    (low : t.resetLow = s.resetLow) : t.RunLaw := by
  rcases h with on | off
  · exact .inl (on.of_eq sched ⟨engine ▸ on.engine, by rw [engine], work⟩ armed clear low)
  · have outside : t.sched.ctrl ≠ .resetting := by rw [sched]; exact serves.2
    obtain ⟨noClear, high⟩ := (resetHeld_iff_of_ne serves.2).mp off.reset
    refine .inr ⟨?_, engine.trans off.engine, ?_, rx.trans off.rx, armed.trans off.armed, ?_, ?_, ?_⟩
    · have ctrl := off.ctrl
      unfold State.onRun at *
      rwa [sched]
    · have none_after := isSome_of_map_eq work
      rw [off.piece] at none_after
      simpa using none_after
    · rw [sched]; exact off.phase
    · rw [sched]; exact off.held
    · exact (resetHeld_iff_of_ne outside).mpr ⟨clear.trans noClear, low.trans high⟩

/-! ## The line's rows -/

theorem work_of_claim {l l' : LineEngine} (claim : l'.claim = l.claim) :
    (l'.piece.map fun p => p.work.phase) = l.piece.map fun p => p.work.phase := by
  have works := congrArg (Option.map fun c => c.1.phase) claim
  simpa [LineEngine.claim, Option.map_map, Function.comp_def, Piece.claim] using works

/-- A row of the line that leaves the engine on and neither makes it idle nor wakes it. -/
theorem State.OnRunLaw.lineOnly {s t : State} (h : s.OnRunLaw) (only : LineOnly s t)
    (on : t.line.engine ≠ .off) (idle : t.line.engine = .idle ↔ s.line.engine = .idle)
    (claim : t.line.claim = s.line.claim) : t.OnRunLaw := by
  have kept : EngineKept s.line t.line := ⟨on, idle, work_of_claim claim⟩
  obtain ⟨-, -, low, clear, -, tb, -, -, sched, -⟩ := only
  exact h.of_eq sched kept (congrArg TimeBase.armed tb) clear low

theorem completeReply_engine (b : List Byte) (s : State) :
    (completeReply b s).line.engine = .settle ∨ (completeReply b s).line.engine = .guard
      ∨ (completeReply b s).line.engine = s.line.engine := by
  unfold completeReply
  split
  · exact .inr (.inr rfl)
  · split
    · exact .inl rfl
    · exact .inr (.inl rfl)

theorem receiveCharacter_engine (c : LineChar) (s : State) :
    (receiveCharacter c s).line.engine = .settle ∨ (receiveCharacter c s).line.engine = .guard
      ∨ (receiveCharacter c s).line.engine = s.line.engine := by
  unfold receiveCharacter
  split
  · exact .inl rfl
  · dsimp only
    split
    · exact completeReply_engine _ s
    · exact .inr (.inr rfl)

/-- The engine after a completed character: as it was, or, from RECEIVE, in SETTLE or the closing guard. -/
theorem characterEnds_engine (r : RxChar) (c : LineChar) (s : State) :
    (characterEnds r c s).line.engine = s.line.engine
      ∨ (s.line.engine = .receive ∧ ((characterEnds r c s).line.engine = .settle
        ∨ (characterEnds r c s).line.engine = .guard)) := by
  unfold characterEnds
  split
  · exact .inl rfl
  · split
    case h_1 receive =>
      rcases receiveCharacter_engine c s with settle | guard | same
      · exact .inr ⟨receive, .inl settle⟩
      · exact .inr ⟨receive, .inr guard⟩
      · exact .inl same
    all_goals exact .inl rfl

theorem State.OnRunLaw.characterEnds {s : State} (h : s.OnRunLaw) (r : RxChar) (c : LineChar) :
    (characterEnds r c s).OnRunLaw := by
  have engine := characterEnds_engine r c s
  refine h.lineOnly (characterEnds_frame r c s) ?_ ?_ (characterEnds_claim r c s)
  · rcases engine with same | ⟨-, settle | guard⟩
    · rw [same]; exact h.engine
    · simp [settle]
    · simp [guard]
  · rcases engine with same | ⟨receive, settle | guard⟩
    · rw [same]
    · simp [settle, receive]
    · simp [guard, receive]

theorem characterSent_engine (p : Piece) {s : State} (transmit : s.line.engine = .transmit) :
    (characterSent p s).line.engine = .transmit ∨ (characterSent p s).line.engine = .guard
      ∨ (characterSent p s).line.engine = .awaitReply := by
  unfold characterSent frameSent
  split
  · dsimp only
    split
    · exact .inr (.inl rfl)
    · exact .inr (.inr rfl)
  · exact .inl transmit

theorem State.OnRunLaw.characterSent {s : State} (h : s.OnRunLaw) (p : Piece)
    (transmit : s.line.engine = .transmit) : (characterSent p s).OnRunLaw := by
  refine h.lineOnly (characterSent_frame p s) ?_ ?_ (characterSent_claim p s)
  all_goals rcases characterSent_engine p transmit with e | e | e <;> simp [e, transmit]

theorem State.OnRunLaw.windowExpires {s : State} (h : s.OnRunLaw) (await : s.line.engine = .awaitReply) :
    (windowExpires s).OnRunLaw := by
  have guard : (Machine.windowExpires s).line.engine = .guard := rfl
  refine h.lineOnly (windowExpires_frame s) ?_ ?_ (windowExpires_claim s)
  all_goals simp [guard, await]

theorem State.OnRunLaw.gapExpires {s : State} (h : s.OnRunLaw) (receive : s.line.engine = .receive) :
    (gapExpires s).OnRunLaw := by
  have settle : (Machine.gapExpires s).line.engine = .settle := rfl
  refine h.lineOnly (gapExpires_frame s) ?_ ?_ (gapExpires_claim s)
  all_goals simp [settle, receive]

theorem State.OnRunLaw.expireOverdue {s : State} (h : s.OnRunLaw) : (expireOverdue s).OnRunLaw := by
  unfold Machine.expireOverdue
  split
  case h_1 await =>
    split
    · split
      · exact h.windowExpires await
      · exact h
    · exact h
  case h_2 receive =>
    split
    · split
      · exact h.gapExpires receive
      · exact h
    · exact h
  all_goals exact h

theorem takeArrival_engine (s : State) :
    (takeArrival s).line.engine = s.line.engine
      ∨ (s.line.engine = .awaitReply ∧ (takeArrival s).line.engine = .receive) := by
  unfold takeArrival
  dsimp only
  split
  · rename_i await
    exact .inr ⟨await, rfl⟩
  · exact .inl rfl

theorem State.OnRunLaw.takeArrival {s : State} (h : s.OnRunLaw) : (takeArrival s).OnRunLaw := by
  have engine := takeArrival_engine s
  refine h.lineOnly (takeArrival_frame s) ?_ ?_ (takeArrival_claim s)
  · rcases engine with same | ⟨-, receive⟩
    · rw [same]; exact h.engine
    · simp [receive]
  · rcases engine with same | ⟨await, receive⟩
    · rw [same]
    · simp [receive, await]

theorem State.OnRunLaw.discardArrival {s : State} (h : s.OnRunLaw) (c : RxChar) :
    (discardArrival c s).OnRunLaw := by
  refine h.of_eq rfl ⟨?_, ?_, rfl⟩ rfl rfl rfl
  all_goals
    unfold Machine.discardArrival
    dsimp only
    split
  · simp
  · exact h.engine
  · rename_i header
    have receive : s.line.engine = .receive := by
      obtain ⟨-, receive⟩ : c.asHeader = true ∧ s.line.engine = .receive := by simpa using header
      exact receive
    simp [receive]
  · rfl

theorem State.OnRunLaw.beginTransmit {s : State} (h : s.OnRunLaw) {p : Piece}
    (piece : s.line.piece = some p) (guard : s.line.engine = .guard) : (beginTransmit p s).OnRunLaw := by
  have line : EngineKept s.line (Machine.beginTransmit p s).line := by
    unfold Machine.beginTransmit
    dsimp only
    simp only [resetFirstToggle_frame]
    exact ⟨by simp, by simp [guard], by simp [piece]⟩
  exact h.of_eq (by simp) line (by simp) (by simp) (by simp)

/-! ## Between two pieces -/

/-- A run whose engine is idle: no piece in hand and no start held. -/
structure State.IdleRun (s : State) : Prop where
  running : s.sched.ctrl = .running
  engine : s.line.engine = .idle
  piece : s.line.piece = none
  held : s.sched.held = none
  armed : s.tb.armed = true
  clear : s.clear = none
  high : s.resetLow = false

theorem State.IdleRun.of_eq {s t : State} (h : s.IdleRun) (ctrl : t.sched.ctrl = s.sched.ctrl)
    (held : t.sched.held = s.sched.held) (line : t.line = s.line) (armed : t.tb.armed = s.tb.armed)
    (clear : t.clear = s.clear) (low : t.resetLow = s.resetLow) : t.IdleRun where
  running := ctrl.trans h.running
  engine := by rw [line]; exact h.engine
  piece := by rw [line]; exact h.piece
  held := held.trans h.held
  armed := armed.trans h.armed
  clear := clear.trans h.clear
  high := low.trans h.high

theorem State.IdleRun.phase {s : State} (h : s.IdleRun) (p : Phase) :
    ({ s with sched.phase := p } : State).IdleRun :=
  h.of_eq rfl rfl rfl rfl rfl rfl

/-- In a phase without line work the idle run meets the law. -/
theorem State.IdleRun.onRun {s : State} (h : s.IdleRun)
    (phase : s.sched.phase = .awaitFirst ∨ s.sched.phase = .quiet) : s.OnRunLaw where
  ctrl := .inl h.running
  engine := by simp [h.engine]
  armed := h.armed
  phase := by rcases phase with p | p <;> simp [p]
  idle := by simp [h.engine, h.piece]
  work := by rcases phase with p | p <;> simp [p, h.piece]
  held := by simp [h.held]
  stopping := by simp [h.running]
  clear := h.clear
  high := h.high

/-- The law gives an idle run wherever the running part has no piece in hand. -/
theorem State.OnRunLaw.idleRun {s : State} (h : s.OnRunLaw) (running : s.sched.ctrl = .running)
    (piece : s.line.piece = none) : s.IdleRun where
  running := running
  engine := by
    by_contra busy
    simpa [piece] using h.idle.mpr busy
  piece := piece
  held := by
    by_contra held
    have acyclic : s.sched.phase = .acyclic := h.held (Option.isSome_iff_ne_none.mpr held)
    simpa [piece, acyclic] using h.work
  armed := h.armed
  clear := h.clear
  high := h.high

theorem State.OnRunLaw.piece_none {s : State} (h : s.OnRunLaw)
    (phase : s.sched.phase = .awaitFirst ∨ s.sched.phase = .quiet) : s.line.piece = none := by
  have work := h.work
  rcases phase with p | p <;> simpa [p] using work

theorem phase_ne_none (w : Work) : w.phase ≠ .none := by cases w <;> simp [Work.phase]

theorem phase_hasWork (w : Work) : w.phase = .sync ∨ w.phase = .cyclic ∨ w.phase = .acyclic := by
  cases w <;> simp [Work.phase]

/-- A handover leaves the engine with a piece that does the work handed over (R140). -/
theorem handOver_line (w : Work) (s : State) :
    ((handOver w s).line.engine = .transmit ∨ (handOver w s).line.engine = .guard)
      ∧ ∃ p, (handOver w s).line.piece = some p ∧ p.work = w := by
  unfold handOver
  split
  · unfold beginTransmit
    simp only [resetFirstToggle_frame]
    simp
  · exact ⟨.inr rfl, _, rfl, rfl⟩

/-- A handover in the phase of its work ends the idle time of a run (R137, Table 3-1). -/
theorem State.IdleRun.handOver {s : State} (h : s.IdleRun) {w : Work} (phase : s.sched.phase = w.phase) :
    (handOver w s).OnRunLaw := by
  obtain ⟨engine, p, piece, work⟩ := handOver_line w s
  have sched : (Machine.handOver w s).sched = s.sched := by simp
  refine ⟨?_, ?_, ?_, ?_, ?_, ?_, ?_, ?_, ?_, ?_⟩
  · exact .inl (by rw [sched]; exact h.running)
  · rcases engine with e | e <;> simp [e]
  · simpa using h.armed
  · rw [sched, phase]; exact phase_ne_none w
  · rw [piece]
    rcases engine with e | e <;> simp [e]
  · rw [sched, piece, phase, if_pos (phase_hasWork w), Option.map_some, work]
  · rw [sched, h.held]; simp
  · rw [sched, h.running]; simp
  · simpa using h.clear
  · simpa using h.high

/-! ## Admission, starts and the walk -/

theorem State.IdleRun.admitHeads (n : Nat) {s : State} (h : s.IdleRun) : (admitHeads n s).OnRunLaw := by
  induction n generalizing s with
  | zero => exact (h.phase .quiet).onRun (.inr rfl)
  | succ n ih =>
    unfold Machine.admitHeads
    split
    · exact (h.phase .quiet).onRun (.inr rfl)
    · split
      · exact (h.phase .quiet).onRun (.inr rfl)
      · split
        · exact ih (h.of_eq rfl rfl rfl rfl rfl rfl)
        · split
          · exact ih (h.of_eq rfl rfl rfl rfl rfl rfl)
          · split
            · exact (h.phase .quiet).onRun (.inr rfl)
            · unfold startAttempt
              refine State.IdleRun.handOver ?_ ?_
              · exact h.of_eq rfl rfl rfl rfl rfl rfl
              · rfl

theorem State.IdleRun.admission {s : State} (h : s.IdleRun) : (admission s).OnRunLaw := h.admitHeads _

theorem setCycleNumber_sched (s : State) :
    (setCycleNumber s).sched.ctrl = s.sched.ctrl ∧ (setCycleNumber s).sched.held = s.sched.held := by
  unfold setCycleNumber
  split <;> exact ⟨rfl, rfl⟩

theorem State.IdleRun.setCycleNumber {s : State} (h : s.IdleRun) : (setCycleNumber s).IdleRun := by
  obtain ⟨ctrl, held⟩ := setCycleNumber_sched s
  exact h.of_eq ctrl held (by simp) (by simp) (by simp) (by simp)

theorem State.IdleRun.takeStart {s : State} (start : Time) (late : Option Word) (h : s.IdleRun) :
    (takeStart start late s).OnRunLaw := by
  unfold Machine.takeStart
  have worked : (stepProbes <| prepareFill start (late.getD 0) <| outputStep <| applySwitch <|
      postLate late <| Machine.setCycleNumber s).IdleRun :=
    h.setCycleNumber.of_eq (by simp) (by simp) (by simp) (by simp) (by simp) (by simp)
  generalize (stepProbes <| prepareFill start (late.getD 0) <| outputStep <| applySwitch <|
      postLate late <| Machine.setCycleNumber s) = t at worked ⊢
  unfold sendSync
  refine State.IdleRun.handOver ?_ ?_
  · exact worked.of_eq rfl rfl rfl rfl rfl rfl
  · rfl

theorem State.IdleRun.callEntry {s : State} (i : Slot) (pos : Nat) (h : s.IdleRun)
    (cyclic : s.sched.phase = .cyclic) : (callEntry i pos s).OnRunLaw := by
  unfold Machine.callEntry
  refine State.IdleRun.handOver ?_ ?_
  · exact h.of_eq rfl rfl rfl rfl rfl rfl
  · exact cyclic

theorem State.IdleRun.endWalk {s : State} (h : s.IdleRun) : (endWalk s).OnRunLaw := by
  unfold Machine.endWalk
  exact State.IdleRun.admission (h.of_eq rfl rfl rfl rfl rfl rfl)

theorem State.IdleRun.walk (es : List ListEntry) (pos : Nat) {s : State} (h : s.IdleRun)
    (cyclic : s.sched.phase = .cyclic) : (walk es pos s).OnRunLaw := by
  induction es generalizing pos s with
  | nil => exact h.endWalk
  | cons e es ih =>
    unfold Machine.walk
    split
    · exact ih _ h cyclic
    · split
      · exact ih _ (h.of_eq rfl rfl rfl rfl rfl rfl) cyclic
      · exact State.IdleRun.callEntry _ _ (h.of_eq rfl rfl rfl rfl rfl rfl) cyclic

/-! ## A delivered start -/

theorem State.OnRunLaw.notify {s : State} (h : s.OnRunLaw) (c : EventCode) (b : Byte) (n d : Word) :
    (notify c b n d s).OnRunLaw :=
  h.of_eq (by simp) (.of_line h (by simp)) (by simp) (by simp) (by simp)

/-- In phase ACYCLIC the piece in hand is an attempt (Table 3-1). -/
theorem State.OnRunLaw.attemptOnLine {s : State} (h : s.OnRunLaw) (acyclic : s.sched.phase = .acyclic) :
    s.attemptOnLine = true := by
  have work := h.work
  unfold State.attemptOnLine
  cases piece : s.line.piece with
  | none => simp [piece, acyclic] at work
  | some p =>
    have phase : p.work.phase = .acyclic := by simpa [piece, acyclic] using work
    cases attempt : p.work <;> simp_all [Work.phase, Work.isAttempt]

theorem State.OnRunLaw.hold {s : State} (h : s.OnRunLaw) (running : s.sched.ctrl = .running)
    (acyclic : s.sched.phase = .acyclic) (start : Time) :
    ({ s with sched.held := some start } : State).OnRunLaw where
  ctrl := h.ctrl
  engine := h.engine
  armed := h.armed
  phase := h.phase
  idle := h.idle
  work := h.work
  held := fun _ => acyclic
  stopping := fun stopping => by cases running.symm.trans stopping
  clear := h.clear
  high := h.high

theorem State.OnRunLaw.answerAcyclic {s : State} (h : s.OnRunLaw) (running : s.sched.ctrl = .running)
    (acyclic : s.sched.phase = .acyclic) (start : Time) : (answerAcyclic start s).OnRunLaw := by
  unfold Machine.answerAcyclic
  rw [if_pos (h.attemptOnLine acyclic)]
  split
  · exact h.hold running acyclic start
  · exact h.notify _ _ _ _

theorem State.OnRunLaw.answerStart {s : State} (h : s.OnRunLaw) (start : Time) :
    (answerStart start s).OnRunLaw := by
  unfold Machine.answerStart
  split
  case h_1 running =>
    split
    case h_1 phase => exact (h.idleRun running (h.piece_none (.inl phase))).takeStart _ _
    case h_2 => exact h.notify _ _ _ _
    case h_3 => exact h.notify _ _ _ _
    case h_4 phase => exact h.answerAcyclic running phase start
    case h_5 phase => exact (h.idleRun running (h.piece_none (.inr phase))).takeStart _ _
    case h_6 => exact h
  all_goals exact h

/-- Any change of the Time Base but its disarming is none to the law. -/
theorem State.OnRunLaw.timeBase {s : State} (h : s.OnRunLaw) (x : TimeBase)
    (armed : x.armed = s.tb.armed) : ({ s with tb := x } : State).OnRunLaw :=
  h.of_eq rfl (.of_line h rfl) armed rfl rfl

theorem State.OnRunLaw.deliverStart {s : State} (h : s.OnRunLaw) (start next : Time) :
    (deliverStart start next s).OnRunLaw :=
  State.OnRunLaw.answerStart (h.timeBase { s.tb with nextStart := some next } rfl) start

theorem State.OnRunLaw.acceptEdge {s : State} (h : s.OnRunLaw) : (acceptEdge s).OnRunLaw :=
  State.OnRunLaw.deliverStart (h.timeBase { s.tb with tracker := .locked, missCount := 0 } rfl) _ _

theorem State.OnRunLaw.countLine {s : State} (h : s.OnRunLaw) (c : LineCounter) :
    (countLine c s).OnRunLaw :=
  h.of_eq rfl ⟨h.engine, Iff.rfl, rfl⟩ rfl rfl rfl

theorem State.OnRunLaw.examineEdge {s : State} (h : s.OnRunLaw) : (examineEdge s).OnRunLaw := by
  unfold Machine.examineEdge
  split
  · split
    · exact h.acceptEdge
    · exact h.countLine _
  · exact h.countLine _

theorem State.OnRunLaw.trackEdge {s : State} (h : s.OnRunLaw) : (trackEdge s).OnRunLaw := by
  unfold Machine.trackEdge
  split
  case h_1 => exact (h.notify _ _ _ _).acceptEdge
  case h_2 => exact (h.notify _ _ _ _).acceptEdge
  case h_3 => exact h.examineEdge
  case h_4 => exact h.examineEdge
  case h_5 => exact h

theorem State.OnRunLaw.cycleTimerExpires {s : State} (h : s.OnRunLaw) : (cycleTimerExpires s).OnRunLaw := by
  unfold Machine.cycleTimerExpires
  split
  · exact h.deliverStart _ _
  · exact h

theorem countMiss_armed (s : State) : (countMiss s).tb.armed = s.tb.armed := by
  unfold countMiss notifySync
  (repeat' split) <;> simp

theorem State.OnRunLaw.countMiss {s : State} (h : s.OnRunLaw) : (countMiss s).OnRunLaw :=
  h.of_eq (by simp) (.of_line h (by simp)) (countMiss_armed s) (by simp) (by simp)

theorem State.OnRunLaw.generateStart {s : State} (h : s.OnRunLaw) : (generateStart s).OnRunLaw := by
  unfold Machine.generateStart
  split
  · exact h.countMiss.deliverStart _ _
  · exact h

/-! ## The end of a run -/

/-- Where the engine is off and empty, the Time Base disarmed and no clear runs, outside RESETTING. -/
theorem offRunLaw_of {s : State} (ctrl : s.sched.ctrl = .config ∨ s.sched.ctrl = .faulted)
    (engine : s.line.engine = .off) (piece : s.line.piece = none) (rx : s.line.rx = none)
    (armed : s.tb.armed = false) (phase : s.sched.phase = .none) (held : s.sched.held = none)
    (clear : s.clear = none) (high : s.resetLow = false) : s.OffRunLaw := by
  refine ⟨?_, engine, piece, rx, armed, phase, held, ?_⟩
  · unfold State.onRun
    rcases ctrl with c | c <;> simp [c]
  · refine (resetHeld_iff_of_ne ?_).mpr ⟨clear, high⟩
    rcases ctrl with c | c <;> simp [c]

theorem State.OnRunLaw.lineFault {s : State} (h : s.OnRunLaw) (c : FaultCause) : (lineFault c s).OffRunLaw := by
  unfold Machine.lineFault
  dsimp only
  refine offRunLaw_of (.inr rfl) ?_ ?_ ?_ rfl rfl rfl ?_ ?_
  · simp [engineOff]
  · simp [engineOff]
  · simp [engineOff]
  · simpa using h.clear
  · simpa using h.high

theorem drainEnd_offRunLaw {s : State} (held : s.sched.held = none) (clear : s.clear = none)
    (high : s.resetLow = false) : (drainEnd s).OffRunLaw :=
  offRunLaw_of (.inl rfl) rfl rfl rfl rfl rfl held clear high

theorem State.OnRunLaw.collide {s : State} (h : s.OnRunLaw) (transmit : s.line.engine = .transmit) :
    (collide s).RunLaw := by
  unfold Machine.collide
  have counted : (Machine.countLine .collisions
      { s with line.collisionRun := s.line.collisionRun + 1 }).OnRunLaw :=
    h.of_eq rfl ⟨h.engine, Iff.rfl, rfl⟩ rfl rfl rfl
  dsimp only
  split
  · exact .inr (counted.lineFault _)
  · have settle (rep : Report) (t : State) : (Machine.enterSettle rep t).line.engine = .settle := rfl
    have stillTransmit : (Machine.countLine .collisions
        { s with line.collisionRun := s.line.collisionRun + 1 }).line.engine = .transmit := transmit
    refine .inl (counted.lineOnly (enterSettle_lineOnly _ _) ?_ ?_ (enterSettle_claim _ _))
    · rw [settle]; simp
    · rw [settle, stillTransmit]; simp

/-! ## Reports -/

/-- A piece is taken from the engine and reported: the run goes on, or the draining ends (R138, R165). -/
theorem State.OnRunLaw.reportPiece {s : State} (h : s.OnRunLaw) {p : Piece} (rep : Report)
    (piece : s.line.piece = some p) : (reportPiece p rep s).RunLaw := by
  have phase : s.sched.phase = p.work.phase := by
    have work := h.work
    rw [piece, Option.map_some] at work
    split at work
    · exact (Option.some.inj work).symm
    · cases work
  have held : s.sched.phase ≠ .acyclic → s.sched.held = none := by
    intro other
    by_contra held
    exact other (h.held (Option.isSome_iff_ne_none.mpr held))
  unfold Machine.reportPiece
  dsimp only
  have frame := applyReport_frame p rep (released s)
  have line : (applyReport p rep (released s)).line = (released s).line := by simp
  obtain ⟨-, -, low, clear, -, tb, -, -, sched⟩ := frame
  change (if (applyReport p rep (released s)).sched.ctrl = .stopping then
    drainEnd (applyReport p rep (released s)) else proceed p.work (applyReport p rep (released s))).RunLaw
  generalize applyReport p rep (released s) = t at *
  split
  · rename_i stopping
    rw [sched] at stopping
    exact .inr (drainEnd_offRunLaw (by rw [sched]; exact (h.stopping stopping).2) (clear.trans h.clear)
      (low.trans h.high))
  · rename_i notStopping
    rw [sched] at notStopping
    have running : s.sched.ctrl = .running := h.ctrl.resolve_right notStopping
    have idleRun (x : Scheduler) (ctrl : x.ctrl = .running) (noHeld : x.held = none) :
        ({ t with sched := x } : State).IdleRun :=
      ⟨ctrl, by rw [show ({ t with sched := x } : State).line = t.line from rfl, line]; rfl,
        by rw [show ({ t with sched := x } : State).line = t.line from rfl, line]; rfl, noHeld,
        by rw [show ({ t with sched := x } : State).tb = t.tb from rfl, tb]; exact h.armed,
        clear.trans h.clear, low.trans h.high⟩
    have tctrl : t.sched.ctrl = .running := by rw [sched]; exact running
    refine .inl ?_
    unfold proceed
    split
    · rename_i work
      have sync : s.sched.phase = .sync := phase.trans (by rw [work]; rfl)
      have noHeld : t.sched.held = none := by rw [sched]; exact held (by simp [sync])
      exact (idleRun { t.sched with phase := .cyclic } tctrl noHeld).walk _ _ rfl
    · rename_i work
      have cyclic : s.sched.phase = .cyclic := phase.trans (by rw [work]; rfl)
      have noHeld : t.sched.held = none := by rw [sched]; exact held (by simp [cyclic])
      exact (idleRun t.sched tctrl noHeld).walk _ _ (by rw [sched]; exact cyclic)
    · unfold afterAttempt
      split
      · exact (idleRun { t.sched with held := none } tctrl rfl).takeStart _ _
      · rename_i noHeld
        exact (idleRun t.sched tctrl noHeld).admission

/-! ## Commands and writes -/

theorem State.RunLaw.offRun {s : State} (h : s.RunLaw) (ctrl : s.sched.ctrl = .config ∨ s.sched.ctrl = .faulted) :
    s.OffRunLaw := by
  refine h.resolve_left fun on => ?_
  have onRun := on.ctrl
  unfold State.onRun at onRun
  rcases ctrl with c | c <;> simp [c] at onRun

theorem State.RunLaw.onRun {s : State} (h : s.RunLaw) (ctrl : s.onRun) : s.OnRunLaw :=
  h.resolve_right fun off => off.ctrl ctrl

theorem State.RunLaw.quietAdmission {s : State} (h : s.RunLaw) : (quietAdmission s).RunLaw := by
  unfold Machine.quietAdmission
  split
  · rename_i ready
    obtain ⟨running, quiet⟩ := ready
    have on := h.onRun (.inl running)
    exact .inl (on.idleRun running (on.piece_none (.inr quiet))).admission
  · exact h

theorem armTimeBase_armed (s : State) : (armTimeBase s).tb.armed = true := by
  unfold armTimeBase
  split <;> rfl

/-- An accepted START begins an idle run in AWAIT_FIRST (R163). -/
theorem State.OffRunLaw.startRun {s : State} (h : s.OffRunLaw) (clear : s.clear = none)
    (high : s.resetLow = false) : (startRun s).OnRunLaw := by
  rw [startRun_eq]
  refine State.IdleRun.onRun ⟨?_, ?_, ?_, ?_, armTimeBase_armed _, ?_, ?_⟩ (.inl ?_)
  · simp
  · simp
  · simpa [startPosted] using h.piece
  · simpa [startPosted] using h.held
  · simpa [startPosted] using clear
  · simpa [startPosted] using high
  · simp

theorem State.OnRunLaw.stopRun {s : State} (h : s.OnRunLaw) : (stopRun s).RunLaw := by
  unfold Machine.stopRun
  dsimp only
  split
  · exact .inr (drainEnd_offRunLaw rfl h.clear h.high)
  · rename_i hasPiece
    refine .inl ⟨.inr rfl, h.engine, h.armed, h.phase, h.idle, h.work, ?_, ?_, h.clear, h.high⟩
    · intro held
      cases held
    · intro _
      exact ⟨by simpa [Option.isSome_iff_ne_none] using hasPiece, rfl⟩

theorem softResetRun_offRunLaw {s : State} (high : s.resetLow = false) : (softResetRun s).OffRunLaw := by
  unfold softResetRun resetLine
  refine ⟨?_, ?_, ?_, ?_, ?_, rfl, rfl, ?_⟩
  · unfold State.onRun
    simp
  · simp [engineOff]
  · simp [engineOff]
  · simp [engineOff]
  · simp [TimeBase.atSoftReset]
  · unfold State.ResetHeld
    simp [engineOff, TimeBase.atSoftReset, Images.atSoftReset, high]

theorem markDiscard_work (i : Slot) (p : Piece) : (markDiscard i p).work = p.work := by
  unfold markDiscard
  (repeat' split) <;> rfl

theorem disableRun_line (i : Slot) (s : State) :
    (disableRun i s).line = { s.line with piece := s.line.piece.map (markDiscard i) } := by
  unfold disableRun
  simp

theorem runLaw_accepted {s t : State} (h : s.RunLaw) (serves : s.serves) (done : Accepted s t) :
    t.RunLaw := by
  obtain ⟨clear, high⟩ := h.served serves
  cases done
  case start config _ _ => exact .inl ((h.offRun (.inl config)).startRun clear high)
  case stop running => exact (h.onRun (.inl running)).stopRun
  case clearFault faulted =>
    have off := h.offRun (.inr faulted)
    exact .inr (offRunLaw_of (.inl rfl) off.engine off.piece off.rx off.armed off.phase off.held clear high)
  case softReset => exact .inr (softResetRun_offRunLaw high)
  case disableStation i _ =>
    have line := disableRun_line i s
    refine h.of_eq serves (by simp [disableRun]) ?_ ?_ ?_ (by simp [disableRun]) (by simp [disableRun])
      (by simp [disableRun])
    · rw [line]
    · rw [line, Option.map_map]
      exact congrArg (fun f => s.line.piece.map f) (funext fun p => congrArg Work.phase (markDiscard_work i p))
    · rw [line]
  case post =>
    refine State.RunLaw.quietAdmission ?_
    exact h.of_eq serves rfl rfl rfl rfl rfl rfl rfl
  case cancelInFlight r _ =>
    refine (h.of_eq serves ?_ ?_ ?_ ?_ ?_ ?_ ?_).quietAdmission
    all_goals simp
  case withdraw tag r rest _ _ =>
    exact (h.of_eq (t := withdrawQueued r rest s) serves rfl rfl rfl rfl rfl rfl rfl).quietAdmission
  case popCompletion =>
    refine State.RunLaw.quietAdmission ?_
    exact h.of_eq serves rfl rfl rfl rfl rfl rfl rfl
  all_goals exact h.of_eq serves rfl rfl rfl rfl rfl rfl rfl

theorem runLaw_written {s t : State} (h : s.RunLaw) (serves : s.serves) (done : Written s t) : t.RunLaw := by
  cases done
  case config r w _ =>
    unfold storeConfig takeWord
    (repeat' split) <;> exact h.of_eq serves rfl rfl rfl rfl rfl rfl rfl
  all_goals exact h.of_eq serves rfl rfl rfl rfl rfl rfl rfl

/-! ## Resets and the passing of time -/

theorem runLaw_powerOn (q : List Instr) (n : Nat) :
    ({ State.powerOn with pending := q, freeCount := n } : State).RunLaw := by
  refine .inr ⟨?_, rfl, rfl, rfl, rfl, rfl, rfl, ?_⟩
  · unfold State.onRun
    simp [State.powerOn]
  · unfold State.ResetHeld
    simp [State.powerOn]

theorem State.RunLaw.release {s : State} (h : s.RunLaw) (low : s.resetLow = true) :
    ({ s with resetLow := false, clear := some 0 } : State).RunLaw := by
  have off : s.OffRunLaw := h.resolve_left fun on => by simp [on.high] at low
  obtain ⟨cleared, -, resetting⟩ := off.reset
  exact .inr ⟨off.ctrl, off.engine, off.piece, off.rx, off.armed, off.phase, off.held, cleared,
    ⟨fun _ => ⟨resetting low, rfl⟩, fun _ => rfl⟩, fun low => by cases low⟩

/-- The end of the clear leaves a part at rest in CONFIG (R158). -/
theorem State.RunLaw.clearEnds {s : State} (h : s.RunLaw) (due : s.clearDue = true) :
    (clearEnds s).RunLaw := by
  have resetting : s.sched.ctrl = .resetting := by
    obtain ⟨resetting, -⟩ : s.sched.ctrl = .resetting ∧ _ := by
      simpa [State.clearDue] using due
    exact resetting
  have off : s.OffRunLaw := h.resolve_left fun on => onRun_ne_resetting on.ctrl resetting
  have running : s.clear.isSome = true := by
    by_contra none
    simp [State.clearDue, Option.not_isSome_iff_eq_none.mp none] at due
  have high := (off.reset.2.1.mp running).2
  exact .inr (offRunLaw_of (.inl rfl) off.engine off.piece off.rx off.armed off.phase off.held rfl high)

theorem runTimer_eq_none {n : Nat} {t : Option Nat} (h : t = none) : runTimer n t = none := by
  rw [h]
  rfl

/-- The law asks of the timers whether they run, not how far they have counted. -/
theorem State.RunLaw.passClocks {s : State} (h : s.RunLaw) (n : Nat) (x : TimeBase)
    (armed : x.armed = s.tb.armed) : ({ passClocks n s with tb := x } : State).RunLaw := by
  rcases h with on | off
  · refine .inl (on.of_eq rfl (⟨on.engine, Iff.rfl, rfl⟩ : EngineKept s.line (s.line.pass n)) armed ?_ rfl)
    exact (runTimer_eq_none on.clear).trans on.clear.symm
  · refine .inr ⟨off.ctrl, off.engine, off.piece, ?_, armed.trans off.armed, off.phase, off.held, ?_⟩
    · show s.line.rx.map _ = none
      rw [off.rx]
      rfl
    · obtain ⟨cleared, clearing, resetting⟩ := off.reset
      refine ⟨fun ctrl => ?_, ?_, resetting⟩
      · obtain ⟨engine, rx, disarmed, rest⟩ := cleared ctrl
        refine ⟨engine, ?_, armed.trans disarmed, rest⟩
        show s.line.rx.map _ = none
        rw [rx]
        rfl
      · show (runTimer n s.clear).isSome ↔ _
        unfold runTimer
        rw [Option.isSome_map]
        exact clearing

theorem State.RunLaw.passMicrosecond {s : State} (h : s.RunLaw) : (passMicrosecond s).RunLaw := by
  unfold Machine.passMicrosecond
  split
  · exact h
  · exact h.passClocks _ _ rfl

theorem State.RunLaw.passClock {s : State} (h : s.RunLaw) : (passClock s).RunLaw := by
  unfold Machine.passClock
  split
  · exact h
  · split
    · exact h.passClocks _ _ rfl
    · exact h.passClocks _ _ rfl

/-- The law asks of the Time Base only whether it is armed. -/
theorem State.RunLaw.timeBase {s : State} (h : s.RunLaw) (x : TimeBase) (armed : x.armed = s.tb.armed) :
    ({ s with tb := x } : State).RunLaw := by
  rcases h with on | off
  · exact .inl (on.timeBase x armed)
  · obtain ⟨cleared, clearing, resetting⟩ := off.reset
    refine .inr ⟨off.ctrl, off.engine, off.piece, off.rx, armed.trans off.armed, off.phase, off.held,
      fun ctrl => ?_, clearing, resetting⟩
    obtain ⟨engine, rx, disarmed, rest⟩ := cleared ctrl
    exact ⟨engine, rx, armed.trans disarmed, rest⟩

/-! ## Every step -/

theorem State.RunLaw.restartQuiet {s : State} (h : s.RunLaw) : (restartQuiet s).RunLaw := by
  rcases h with on | off
  · exact .inl (on.of_eq rfl ⟨on.engine, Iff.rfl, rfl⟩ rfl rfl rfl)
  · refine .inr ⟨off.ctrl, off.engine, off.piece, ?_, off.armed, off.phase, off.held, ?_⟩
    · show s.line.rx.map _ = none
      rw [off.rx]
      rfl
    · obtain ⟨cleared, clearing, resetting⟩ := off.reset
      refine ⟨fun ctrl => ?_, clearing, resetting⟩
      obtain ⟨engine, rx, rest⟩ := cleared ctrl
      refine ⟨engine, ?_, rest⟩
      show s.line.rx.map _ = none
      rw [rx]
      rfl

theorem engine_of_openingPiece {s : State} {p : Piece} (h : s.openingPiece = some p) :
    s.line.engine = .guard := by
  unfold State.openingPiece at h
  split at h
  · rename_i waits
    exact waits.1
  · cases h

theorem engine_of_closingPiece {s : State} {p : Piece} {rep : Report} (h : s.closingPiece = some (p, rep)) :
    s.line.engine = .guard := by
  unfold State.closingPiece at h
  split at h
  · rename_i waits
    exact waits.1
  · cases h

theorem rx_of_toSample {s : State} {c : RxChar} (h : s.toSample = some c) : s.line.rx = some c :=
  (Option.filter_eq_some_iff.mp h).1

theorem rx_of_toComplete {s : State} {c : RxChar} (h : s.toComplete = some c) : s.line.rx = some c :=
  (Option.filter_eq_some_iff.mp h).1

theorem armed_of_cycleTimerDue {s : State} (h : s.cycleTimerDue = true) : s.tb.armed = true := by
  simp only [State.cycleTimerDue, Bool.and_eq_true] at h
  exact h.1.1

theorem armed_of_syncWindowDue {s : State} (h : s.syncWindowDue = true) : s.tb.armed = true := by
  simp only [State.syncWindowDue, Bool.and_eq_true] at h
  exact h.1.1.1

theorem engine_of_windowDue {s : State} (h : s.windowDue = true) : s.line.engine = .awaitReply := by
  simp only [State.windowDue, Bool.and_eq_true, beq_iff_eq] at h
  exact h.1

theorem engine_of_gapDue {s : State} (h : s.gapDue = true) : s.line.engine = .receive := by
  simp only [State.gapDue, Bool.and_eq_true, beq_iff_eq] at h
  exact h.1.1

theorem engine_of_settleDue {s : State} (h : s.settleDue = true) : s.line.engine = .settle := by
  simp only [State.settleDue, Bool.and_eq_true, beq_iff_eq] at h
  exact h.1.1

theorem engine_of_listening {s : State} (h : s.listening = true) : s.line.engine ≠ .off := by
  simp only [State.listening, Bool.and_eq_true, bne_iff_ne] at h
  exact h.1

theorem engine_of_busyDue {s : State} (h : s.busyDue = true) : s.line.engine ≠ .off := by
  simp only [State.busyDue, Bool.and_eq_true, Bool.or_eq_true, beq_iff_eq] at h
  rcases h.1 with e | e <;> simp [e]

theorem keeps_runLaw : Keeps State.RunLaw where
  pending s _ h := (runLaw_iff _).mpr ((runLaw_iff s).mp h)
  freeCount s _ h := (runLaw_iff _).mpr ((runLaw_iff s).mp h)
  dataOut s _ h := (runLaw_iff _).mpr ((runLaw_iff s).mp h)
  result s _ _ _ h := (runLaw_iff _).mpr ((runLaw_iff s).mp h)
  access _ h serves := h.of_eq serves rfl rfl rfl rfl rfl rfl rfl
  command _ _ h serves done := runLaw_accepted h serves done
  write _ _ h serves done := runLaw_written h serves done
  snapshot s h := (runLaw_iff _).mpr ((runLaw_iff s).mp h)
  advance s h := (runLaw_iff _).mpr ((runLaw_iff s).mp h)
  resetLow _ _ := runLaw_powerOn _ _
  release _ h low := h.release low
  clearEnd _ h due := h.clearEnds due
  tick _ h := h.passMicrosecond
  clock _ h := h.passClock
  edge _ h armed _ := .inl (h.on_of_armed armed).trackEdge
  arrival _ h listening := .inl (h.on (engine_of_listening listening)).expireOverdue.takeArrival
  discard _ c h sampled := .inl ((h.on_of_rx (rx_of_toSample sampled)).discardArrival c)
  sample _ _ h sampled := by
    have on := h.on_of_rx (rx_of_toSample sampled)
    exact .inl (on.of_eq rfl ⟨on.engine, Iff.rfl, rfl⟩ rfl rfl rfl)
  completion s r c h complete := by
    have on := h.on_of_rx (rx_of_toComplete complete)
    have left : ({ s with line.rx := none, line.quiet := some 0 } : State).OnRunLaw :=
      on.of_eq rfl ⟨on.engine, Iff.rfl, rfl⟩ rfl rfl rfl
    exact .inl (left.characterEnds r c)
  echo _ h := h.restartQuiet
  sent _ p h transmit _ := .inl ((h.on (by simp [transmit])).characterSent p transmit)
  collision _ _ h transmit _ := (h.on (by simp [transmit])).collide transmit
  window _ h due := by
    have await := engine_of_windowDue due
    exact .inl ((h.on (by simp [await])).windowExpires await)
  gap _ h due := by
    have receive := engine_of_gapDue due
    exact .inl ((h.on (by simp [receive])).gapExpires receive)
  opening _ _ h piece := by
    have guard := engine_of_openingPiece piece
    exact .inl ((h.on (by simp [guard])).beginTransmit (StepKeeps.piece_of_openingPiece piece) guard)
  settle s h due := by
    have settle := engine_of_settleDue due
    have on := h.on (by simp [settle])
    have kept : EngineKept s.line (settleEnds s).line :=
      ⟨by simp [settleEnds], by simp [settleEnds, settle], rfl⟩
    exact .inl (on.of_eq rfl kept rfl rfl rfl)
  closing _ _ r h piece := by
    have guard := engine_of_closingPiece piece
    exact (h.on (by simp [guard])).reportPiece r (StepKeeps.piece_of_closingPiece piece)
  busy _ h due := .inr ((h.on (engine_of_busyDue due)).lineFault _)
  cycleTimer _ h due := .inl (h.on_of_armed (armed_of_cycleTimerDue due)).cycleTimerExpires
  syncWindow _ h due := .inl (h.on_of_armed (armed_of_syncWindowDue due)).generateStart
  pulse s h := h.timeBase { s.tb with syncout := none } rfl

/-- Settles O59: the two laws are the two cases of `State.RunLaw`, and `keeps_runLaw` says it of each thing
a step can do. -/
theorem everyStepKeepsTheRun : Obligations.EveryStepKeepsTheRun := by
  unfold Obligations.EveryStepKeepsTheRun
  intro s t run reset stepped
  have held : s.RunLaw := (runLaw_iff s).mpr ⟨run, reset⟩
  exact (runLaw_iff t).mp (keeps_runLaw.step held stepped)

end Sys2Proof.Machine
end

section
/-! R56, R141, R157, R171, log 1 to log 4: what makes each expiry due, and the step that takes a command or
an expiry. -/

namespace Sys2Proof.Machine

/-! ## When an expiry is due -/

theorem timeReached_iff (now e : Time) : timeReached now e = true ↔ (now - e).toNat < 2 ^ 31 := by
  simp [timeReached]

theorem quietReached_iff (l : LineEngine) (bits : Nat) :
    l.quietReached bits = true ↔ l.rx = none ∧ ∃ q, l.quiet = some q ∧ l.clocks bits ≤ q := by
  unfold LineEngine.quietReached
  cases l.quiet <;> simp

theorem busyWithin_iff (l : LineEngine) :
    l.busyWithin = true ↔ ∀ b, l.busy = some b → b ≤ l.clocks l.busyLimit.toNat := by
  unfold LineEngine.busyWithin
  cases l.busy <;> simp

theorem busyReached_iff (l : LineEngine) :
    l.busyReached = true ↔ ∃ b, l.busy = some b ∧ l.clocks l.busyLimit.toNat ≤ b := by
  unfold LineEngine.busyReached
  cases l.busy <;> simp

theorem clearDue_iff (s : State) :
    s.clearDue = true ↔ s.sched.ctrl = .resetting ∧ ∃ n, s.clear = some n ∧ 6400 ≤ n := by
  unfold State.clearDue
  cases s.clear with
  | none => simp
  | some n =>
    simp only [Bool.and_eq_true, beq_iff_eq, decide_eq_true_eq, Option.some.injEq, exists_eq_left']
    exact Iff.rfl

theorem pulseDue_iff (s : State) : s.pulseDue = true ↔ ∃ n, s.tb.syncout = some n ∧ 32 ≤ n := by
  unfold State.pulseDue
  cases s.tb.syncout with
  | none => simp
  | some n =>
    simp only [decide_eq_true_eq, Option.some.injEq, exists_eq_left']
    exact Iff.rfl

theorem cycleTimerDue_iff (s : State) :
    s.cycleTimerDue = true ↔ s.tb.armed = true ∧ s.tb.external = false
      ∧ ∃ e, s.tb.nextStart = some e ∧ (s.tb.time - e).toNat < 2 ^ 31 := by
  unfold State.cycleTimerDue
  cases s.tb.nextStart with
  | none => simp
  | some e => simp [and_assoc, timeReached_iff]

theorem syncWindowDue_iff (s : State) :
    s.syncWindowDue = true ↔ s.tb.armed = true ∧ s.tb.external = true
      ∧ (s.tb.tracker = .locked ∨ s.tb.tracker = .coasting ∨ s.tb.tracker = .unlocked)
      ∧ ∃ e, s.tb.nextStart = some e
        ∧ (s.tb.time - (e + s.tb.syncTol.zeroExtend 32)).toNat < 2 ^ 31 := by
  unfold State.syncWindowDue
  cases s.tb.nextStart with
  | none => simp
  | some e => simp [and_assoc, or_assoc, timeReached_iff]

theorem openingPiece_eq_some_iff (s : State) (p : Piece) :
    s.openingPiece = some p ↔ s.line.engine = .guard ∧ s.line.quietReached s.line.guardTime.toNat = true
      ∧ s.line.busyWithin = true ∧ s.line.piece = some p ∧ p.report = none := by
  unfold State.openingPiece
  split
  · rename_i waits
    obtain ⟨guard, quiet, busy⟩ := waits
    simp [guard, quiet, busy, Option.filter_eq_some_iff]
  · rename_i waits
    constructor
    · intro h
      cases h
    · rintro ⟨guard, quiet, busy, -⟩
      exact absurd ⟨guard, quiet, busy⟩ waits

theorem openingPiece_isSome_iff (s : State) :
    s.openingPiece.isSome = true ↔ s.line.engine = .guard
      ∧ s.line.quietReached s.line.guardTime.toNat = true ∧ s.line.busyWithin = true
      ∧ ∃ p, s.line.piece = some p ∧ p.report = none := by
  simp [Option.isSome_iff_exists, openingPiece_eq_some_iff]

theorem closingPiece_eq_some_iff (s : State) (p : Piece) (rep : Report) :
    s.closingPiece = some (p, rep) ↔ s.line.engine = .guard
      ∧ s.line.quietReached s.line.guardTime.toNat = true ∧ s.line.busyWithin = true
      ∧ s.line.piece = some p ∧ p.report = some rep := by
  unfold State.closingPiece
  split
  · rename_i waits
    obtain ⟨guard, quiet, busy⟩ := waits
    simp [guard, quiet, busy, Option.bind_eq_some_iff]
  · rename_i waits
    constructor
    · intro h
      cases h
    · rintro ⟨guard, quiet, busy, -⟩
      exact absurd ⟨guard, quiet, busy⟩ waits

theorem closingPiece_isSome_iff (s : State) :
    s.closingPiece.isSome = true ↔ s.line.engine = .guard
      ∧ s.line.quietReached s.line.guardTime.toNat = true ∧ s.line.busyWithin = true
      ∧ ∃ p, s.line.piece = some p ∧ p.report.isSome = true := by
  simp [Option.isSome_iff_exists, closingPiece_eq_some_iff]

theorem settleDue_iff (s : State) :
    s.settleDue = true ↔ s.line.engine = .settle
      ∧ s.line.quietReached (s.line.charGap.toNat + 11) = true ∧ s.line.busyWithin = true := by
  simp [State.settleDue, and_assoc]

theorem busyDue_iff (s : State) :
    s.busyDue = true ↔ (s.line.engine = .guard ∨ s.line.engine = .settle)
      ∧ ∃ b, s.line.busy = some b ∧ s.line.clocks s.line.busyLimit.toNat ≤ b := by
  simp [State.busyDue, busyReached_iff]

theorem windowDue_iff (s : State) :
    s.windowDue = true ↔ s.line.engine = .awaitReply
      ∧ ∃ w, s.line.window = some w ∧ s.line.clocks s.line.respWin.toNat ≤ w := by
  unfold State.windowDue
  cases s.line.window <;> simp

theorem gapDue_iff (s : State) :
    s.gapDue = true ↔ s.line.engine = .receive ∧ s.line.rx = none
      ∧ ∃ g, s.line.gap = some g ∧ s.line.clocks s.line.charGap.toNat ≤ g := by
  unfold State.gapDue
  cases s.line.gap <;> simp [and_assoc]

/-! ## A step -/

/-- Each row of the list of expiries stands in it exactly while its condition holds. -/
theorem mem_dueEvents (s : State) (c : Instr) :
    c ∈ dueEvents s ↔
      (c = .bufferClearEnd ∧ s.clearDue = true) ∨ (c = .syncoutPulseEnd ∧ s.pulseDue = true)
        ∨ (c = .cycleTimerExpiry ∧ s.cycleTimerDue = true)
        ∨ (c = .syncWindowExpiry ∧ s.syncWindowDue = true)
        ∨ (c = .openingGuardEnd ∧ s.openingPiece.isSome = true)
        ∨ (c = .settleEnd ∧ s.settleDue = true)
        ∨ (c = .closingGuardEnd ∧ s.closingPiece.isSome = true)
        ∨ (c = .busyLimitExpiry ∧ s.busyDue = true)
        ∨ (c = .responseWindowExpiry ∧ s.windowDue = true)
        ∨ (c = .charGapExpiry ∧ s.gapDue = true) := by
  unfold dueEvents
  simp only [List.mem_filterMap, List.mem_cons, List.not_mem_nil, or_false, Option.ite_none_right_eq_some,
    Option.some.injEq, exists_eq_or_imp, exists_eq_left]
  simp only [and_comm, eq_comm (b := c)]

theorem idle_none {s : State} (h : dueEvents s = []) : idle s = .next (passClock s) := by
  unfold idle
  rw [h]

theorem idle_one {s : State} {c : Instr} (h : dueEvents s = [c]) : idle s = exec c s := by
  unfold idle
  rw [h]

/-- Of several expiries the free choice takes one that is due. -/
theorem idle_several {s : State} (h : 2 ≤ (dueEvents s).length) :
    ∃ c ∈ dueEvents s, idle s = exec c { s with freeCount := s.freeCount + 1 } := by
  unfold idle
  match due : dueEvents s with
  | [] => simp [due] at h
  | [_] => simp [due] at h
  | c :: d :: cs =>
    have inside : Config.pickDue s.freeCount % (cs.length + 2) < (c :: d :: cs).length :=
      Nat.mod_lt _ (Nat.succ_pos _)
    refine ⟨_, ?_, rfl⟩
    rw [List.getD_eq_getElem _ _ inside]
    exact List.getElem_mem _

/-- Settles O1: `step` on a queue with a front. -/
theorem stepTakesTheFrontCommand : Obligations.StepTakesTheFrontCommand := by
  unfold Obligations.StepTakesTheFrontCommand
  intro c q s pending
  exact step_cons pending

/-- Settles O2: each row of `dueEvents` by its own condition, and `idle` by the length of the list. -/
theorem stepOnAnEmptyQueue : Obligations.StepOnAnEmptyQueue := by
  unfold Obligations.StepOnAnEmptyQueue
  dsimp only
  intro s
  refine ⟨fun c => ?_, fun empty => ?_⟩
  · rw [mem_dueEvents, clearDue_iff, pulseDue_iff, cycleTimerDue_iff, syncWindowDue_iff,
      openingPiece_isSome_iff, settleDue_iff, closingPiece_isSome_iff, busyDue_iff, windowDue_iff,
      gapDue_iff, quietReached_iff, quietReached_iff, busyWithin_iff]
  · rw [step_nil empty]
    exact ⟨idle_none, fun c => idle_one, idle_several⟩

/-! ## Every command answers -/

/-- The model's own fields stand: the waiting commands and the count of free choices. -/
def QueueKept (s t : State) : Prop := t.pending = s.pending ∧ t.freeCount = s.freeCount

theorem QueueKept.refl (s : State) : QueueKept s s := ⟨rfl, rfl⟩

theorem QueueKept.trans {s t u : State} (h : QueueKept s t) (k : QueueKept t u) : QueueKept s u :=
  ⟨k.1.trans h.1, k.2.trans h.2⟩

theorem queueKept_accepted {s t : State} (h : Accepted s t) : QueueKept s t := by
  unfold QueueKept
  cases h <;> simp

theorem queueKept_written {s t : State} (h : Written s t) : QueueKept s t := by
  unfold QueueKept
  cases h <;> simp

theorem queueKept_takeCommand (c a : Byte) (s : State) :
    QueueKept s (takeCommand c a (commandBody c a) s) :=
  takeCommand_keeps (P := QueueKept s) (.refl s) (fun _ _ h => h) fun _ _ taken =>
    queueKept_accepted (accepted_of_ok taken)

theorem queueKept_writeReg (r : Reg) (w : Word) (s : State) : QueueKept s (writeReg r w s) := by
  by_cases command : r = .command
  · subst command
    exact queueKept_takeCommand _ _ s
  · exact queueKept_written (written_of_writeReg command w s)

theorem queueKept_writeOffset (a : BitVec 6) (w : Word) (s : State) : QueueKept s (writeOffset a w s) := by
  unfold writeOffset
  split
  · exact queueKept_writeReg _ w s
  · exact ⟨rfl, rfl⟩

theorem queueKept_readReg (r : Reg) (s : State) : QueueKept s (readReg r s).2 := by
  unfold QueueKept
  simp

theorem queueKept_readOffset (a : BitVec 6) (s : State) : QueueKept s (readOffset a s).2 := by
  unfold readOffset
  split
  · exact queueKept_readReg _ s
  · exact ⟨rfl, rfl⟩

theorem queueKept_hostWrite {f : State → State} {s : State} (h : QueueKept s (f s)) :
    QueueKept s (hostWrite f s) :=
  hostWrite_keeps (P := QueueKept s) (.refl s) fun _ => h

theorem queueKept_hostRead {f : State → Word × State} {s : State} (h : QueueKept s (f s).2) :
    QueueKept s (hostRead f s) :=
  hostRead_keeps (P := QueueKept s) (.refl s) (fun _ _ k => k) fun _ => h

/-- The effect of a row, in whatever state it comes: every row but the resets and the clock works through an
operation whose frame says that it leaves the model's own fields alone. -/
theorem queueKept_exec (c : Instr) (s : State) : ∃ t, exec c s = .next t ∧ QueueKept s t := by
  match command : c.commandBytes with
  | some (code, arg) => exact ⟨_, exec_command command s, queueKept_takeCommand code arg s⟩
  | none =>
    match write : c.writes with
    | some (r, w) => exact ⟨_, exec_write write s, queueKept_hostWrite (queueKept_writeReg r w s)⟩
    | none =>
      cases c <;> simp only [Instr.commandBytes, Instr.writes, reduceCtorEq] at command write
      case timeLoRead => exact ⟨_, rfl, queueKept_hostRead (queueKept_readReg .timeLo s)⟩
      case winDataRead => exact ⟨_, rfl, queueKept_hostRead (queueKept_readReg .winData s)⟩
      case registerWrite a w => exact ⟨_, rfl, queueKept_hostWrite (queueKept_writeOffset a w s)⟩
      case unmappedRegisterRead a => exact ⟨_, rfl, queueKept_hostRead (queueKept_readOffset a s)⟩
      case resetnLow => exact ⟨_, rfl, rfl, rfl⟩
      case timeTick => exact ⟨_, rfl, by simp [QueueKept]⟩
      case startBitMiddleSample level =>
        refine ⟨_, rfl, ?_⟩
        unfold QueueKept
        cases level <;> split <;> simp
      case echoCheck e =>
        refine ⟨_, rfl, ?_⟩
        unfold QueueKept
        dsimp only
        (repeat' split) <;> simp
      all_goals
        refine ⟨_, rfl, ?_⟩
        unfold QueueKept
        split <;> simp

/-- Settles O3: `queueKept_exec`. -/
theorem everyCommandAnswersANextState : Obligations.EveryCommandAnswersANextState := by
  unfold Obligations.EveryCommandAnswersANextState
  exact queueKept_exec

end Sys2Proof.Machine
end

section
/-! R157, Tables 2-2 and 10-1: the power-on values, what holds them while RESETn is low, and the laws they
meet. -/

namespace Sys2Proof.Machine

/-! ## RESETn low -/

/-- The power-on values with any waiting commands and any count of free choices, which are the model's. -/
def heldLow (q : List Instr) (n : Nat) : State := { State.powerOn with pending := q, freeCount := n }

theorem heldLow_atRest (q : List Instr) (n : Nat) : (heldLow q n).AtRest :=
  ⟨rfl, rfl, rfl, rfl, rfl, rfl, rfl, rfl, rfl, rfl⟩

theorem not_serves_heldLow (q : List Instr) (n : Nat) : ¬ (heldLow q n).serves :=
  not_serves_of_resetting rfl

/-- While RESETn is low nothing but its release changes anything (R157). -/
theorem exec_heldLow {c : Instr} (noRelease : c ≠ .resetnRelease) (q : List Instr) (n : Nat) :
    exec c (heldLow q n) = .next (heldLow q n) := by
  have unserved := not_serves_heldLow q n
  match command : c.commandBytes, access : c.isAccess, read : c.isRead with
  | some _, _, _ => exact exec_command_unserved command unserved
  | none, true, false => exact exec_write_unserved access read unserved
  | none, _, true =>
    obtain ⟨f, row⟩ := exec_read read (heldLow q n)
    rw [row, hostRead_unserved unserved]
    rfl
  | none, false, false =>
    match needsRun : c.needsRun with
    | true => exact exec_needsRun_atRest needsRun (heldLow_atRest q n)
    | false =>
      cases c <;> simp only [Instr.commandBytes, Instr.isAccess, Instr.needsRun, reduceCtorEq]
        at command access needsRun
      case resetnRelease => exact absurd rfl noRelease
      all_goals rfl

/-- Settles O6: `heldLow` names the states RESETn low holds, and `exec_heldLow` says what moves them. -/
theorem resetnLowHoldsEveryBlock : Obligations.ResetnLowHoldsEveryBlock := by
  unfold Obligations.ResetnLowHoldsEveryBlock
  refine ⟨fun s => rfl, ?_⟩
  rintro s ⟨q, n, rfl⟩
  refine ⟨fun c noRelease => exec_heldLow noRelease q n, fun empty => ?_, rfl, rfl, rfl, rfl, rfl, rfl, rfl,
    rfl, rfl, rfl⟩
  have none : q = [] := empty
  subst none
  rfl

/-! ## The power-on registers -/

/-- The part at the end of the RESETTING that follows a power-on reset (R157, R158). -/
def afterPowerOn (q : List Instr) (n : Nat) : State :=
  clearEnds { heldLow q n with resetLow := false, clear := some 6400 }

/-- No register shows the model's own fields. -/
theorem regWord_afterPowerOn (q : List Instr) (n : Nat) (r : Reg) :
    (afterPowerOn q n).regWord r = (afterPowerOn [] 0).regWord r := by
  cases r <;> rfl

/-- Settles O4: each word of `afterPowerOn` by evaluation. -/
theorem powerOnRegisterWords : Obligations.PowerOnRegisterWords := by
  unfold Obligations.PowerOnRegisterWords
  intro s
  refine ⟨heldLow s.pending s.freeCount, _, afterPowerOn s.pending s.freeCount, rfl, rfl, rfl, ?_⟩
  simp only [regWord_afterPowerOn s.pending s.freeCount]
  have composer (r : ComposerReg) : (afterPowerOn [] 0).regWord (.composer r) = 0 := by
    cases r <;> decide
  and_intros
  rotate_right 4
  · exact composer
  all_goals decide

/-! ## The laws at reset -/

/-- Settles O60: the laws of the power-on values, which the release of RESETn keeps. -/
theorem lawsHoldAtReset : Obligations.LawsHoldAtReset := by
  unfold Obligations.LawsHoldAtReset
  obtain ⟨roles, memory, payload, window⟩ := banksHeld_powerOn
  have run : State.reset.RunLaw := (runLaw_powerOn [] 0).release rfl
  obtain ⟨onRun, reset⟩ := (runLaw_iff _).mp run
  exact ⟨roles, memory, payload, window, queuesHeld_empty rfl rfl, Nat.zero_le _, rfl, tableHeld_powerOn,
    healthHeld_powerOn, ⟨exchangeList_inRange_default, exchangeList_inRange_default⟩, onRun, reset⟩

end Sys2Proof.Machine
end

section
/-! R160 to R168: the answers every command leaves, and the effects of START, STOP and SOFT_RESET. -/

namespace Sys2Proof.Machine

/-! ## Answers -/

/-- A code outside Table 8-3 is refused UNKNOWN_COMMAND (R160). -/
theorem commandBody_unknown {code : Byte} (h : code ∉ commandCodes) (arg : Byte) :
    commandBody code arg = fun _ => .error .unknownCommand := by
  simp only [commandCodes, List.mem_cons, List.not_mem_nil, or_false, not_or, ← BitVec.toNat_inj] at h
  unfold commandBody
  split <;> simp_all

theorem stopBody_wrong {s : State} (other : s.sched.ctrl ≠ .running) : stopBody s = .error .wrongState :=
  whenState_wrong (beq_false_of_ne other)

theorem switchListBody_wrong {s : State} (stopping : s.sched.ctrl = .stopping) :
    switchListBody s = .error .wrongState :=
  whenState_wrong (by simp [stopping])

theorem commitOutputsBody_wrong {s : State} (faulted : s.sched.ctrl = .faulted) :
    commitOutputsBody s = .error .wrongState :=
  whenState_wrong (by simp [faulted])

/-- Settles O9: a served command is accepted or refused, and the answer is recorded either way. -/
theorem commandsRecordTheirResult : Obligations.CommandsRecordTheirResult := by
  unfold Obligations.CommandsRecordTheirResult
  refine ⟨fun i code arg s bytes served => ?recorded, fun code arg s unknown served => ?unknown,
    fun s arg served => ⟨fun c => ?_, fun c => ?_, fun c => ?_, fun c => ?_, fun c => ?_⟩⟩
  case recorded =>
    match body : commandBody code arg s with
    | .ok t =>
      exact ⟨_, exec_command_accepted bytes served body, rfl, rfl, fun refused => absurd rfl refused⟩
    | .error r => exact ⟨_, exec_command_refused bytes served body, rfl, rfl, fun _ => rfl⟩
  case unknown => exact exec_command_refused rfl served (congrFun (commandBody_unknown unknown arg) s)
  · exact exec_command_refused rfl served (startBody_wrong c)
  · exact exec_command_refused rfl served (stopBody_wrong c)
  · exact exec_command_refused rfl served (clearFaultBody_wrong c)
  · exact exec_command_refused rfl served (switchListBody_wrong c)
  · exact exec_command_refused rfl served (commitOutputsBody_wrong c)

/-! ## Notices -/

/-- What a notice makes of the event block rests on that block and TIME. -/
theorem notify_events_congr {s t : State} (events : t.events = s.events) (time : t.tb.time = s.tb.time)
    (c : EventCode) (b : Byte) (n d : Word) : (notify c b n d t).events = (notify c b n d s).events := by
  unfold notify
  rw [events, time]
  split <;> rfl

theorem applySwitch_lists (s : State) :
    (applySwitch s).lists = if s.lists.pendingSwitch then
      { s.lists with active := !s.lists.active, pendingSwitch := false } else s.lists := by
  unfold applySwitch
  split <;> simp

theorem applySwitch_events (s : State) :
    (applySwitch s).events = if s.lists.pendingSwitch then
      (notify .listSwitched 0xFF s.sched.cycle (if s.lists.active then 0 else 1) s).events else s.events := by
  unfold applySwitch
  split
  · exact notify_events_congr (s := s) (by rfl) (by rfl) _ _ _ _
  · rfl

/-! ## START -/

theorem startValuesOk_iff (s : State) :
    s.startValuesOk = true ↔ s.line.rateCode.toNat ≤ 5
      ∧ (8 ≤ s.line.respWin.toNat ∧ s.line.respWin.toNat ≤ 255)
      ∧ (1 ≤ s.line.charGap.toNat ∧ s.line.charGap.toNat ≤ 63)
      ∧ (2 ≤ s.line.guardTime.toNat ∧ s.line.guardTime.toNat ≤ 63)
      ∧ 100 ≤ s.line.busyLimit.toNat
      ∧ (100 ≤ s.tb.period.toNat ∧ s.tb.period.toNat ≤ 1000000)
      ∧ s.tb.reserve.toNat ≤ 1000 := by
  simp only [State.startValuesOk, State.budgetValuesOk, Bool.and_eq_true, decide_eq_true_eq]
  tauto

theorem budgetPasses_iff (s : State) (enabling : Option Slot) (l : ExchangeList) :
    s.budgetPasses enabling l = true ↔ s.line.budgetOff = true ∨ s.listFits enabling l = true := by
  simp [State.budgetPasses]

theorem startBody_config {s : State} (config : s.sched.ctrl = .config) :
    startBody s =
      if !s.startValuesOk then .error .badArgument
      else if !s.budgetPasses none s.upcomingList then .error .budget
      else .ok (startRun s) :=
  whenState_of (beq_iff_eq.mpr config)

theorem armTimeBase_tb (s : State) :
    (armTimeBase s).tb = { s.tb with
      armed := true, missCount := 0
      nextStart := if s.tb.external then none else some (s.tb.time + s.tb.period.zeroExtend 32)
      tracker := if s.tb.external then .acquiring else .internal } := by
  unfold armTimeBase
  split
  · rename_i external
    simp [external]
  · rename_i internal
    simp [internal, TimeBase.periodTime]

theorem startRun_sched (s : State) :
    (startRun s).sched = { s.sched with cycle := 0, phase := .awaitFirst, ctrl := .running } := by
  simp [startRun_eq, startPosted]

theorem startRun_line (s : State) :
    (startRun s).line = { s.line with engine := .idle, quiet := some 0, collisionRun := 0 } := by
  simp [startRun_eq, startPosted]

theorem startRun_reqs (s : State) :
    (startRun s).reqs
      = { s.reqs with queue := s.reqs.queue.map fun r => { r with postedCycle := 0 } } := by
  simp [startRun_eq, startPosted]

theorem startRun_station (s : State) (i : Slot) : (startRun s).station i = (s.station i).atStart := by
  have stations : (startRun s).stations = ((applySwitch (startPosted s)).mapStations Station.atStart).stations := by
    simp [startRun_eq]
  rw [station_congr stations, station_mapStations]
  exact congrArg Station.atStart (station_congr (by simp [startPosted]) i)

/-- LIST_SWITCHED of a START carries the cycle number 0, which START has set by then (R163). -/
theorem startRun_events (s : State) :
    (startRun s).events = if s.lists.pendingSwitch then
      (notify .listSwitched 0xFF 0 (if s.lists.active then 0 else 1) s).events else s.events := by
  have events : (startRun s).events = (applySwitch (startPosted s)).events := by simp [startRun_eq]
  rw [events, applySwitch_events]
  exact if_congr Iff.rfl (notify_events_congr (s := s) (by rfl) (by rfl) _ _ _ _) rfl

/-- Settles O10: START's checks in their order, then the effects of `startRun` block by block. -/
theorem startJudgesAndBeginsTheRun : Obligations.StartJudgesAndBeginsTheRun := by
  unfold Obligations.StartJudgesAndBeginsTheRun
  dsimp only
  intro s arg served config
  have body := startBody_config config
  rw [← startValuesOk_iff]
  have upcoming : (if s.lists.pendingSwitch then s.lists.shadowList else s.lists.activeList)
      = s.upcomingList := rfl
  rw [upcoming, ← budgetPasses_iff]
  refine ⟨fun outside => ?_, fun inside unfit => ?_, fun inside fits => ?_⟩
  · refine exec_command_refused rfl served ?_
    show startBody s = _
    simp [body, outside]
  · refine exec_command_refused rfl served ?_
    show startBody s = _
    simp [body, inside, unfit]
  · have accepted : startBody s = .ok (startRun s) := by simp [body, inside, fits]
    refine ⟨_, exec_command_accepted rfl served accepted, ?_, startRun_sched s, startRun_reqs s, ?_, ?_,
      startRun_station s, startRun_line s, ?_, ?_, ?_, ?_⟩
    · simp [State.answered]
    · show (startRun s).lists = _
      rw [startRun_eq]
      simp [applySwitch_lists, startPosted]
    · exact startRun_events s
    · show (startRun s).tb = _
      rw [startRun_eq]
      simp [armTimeBase_tb, startPosted]
    · show (startRun s).images = _
      simp [startRun_eq, startPosted]
    · show (startRun s).resetLow = _
      simp
    · show (startRun s).clear = _
      simp

/-! ## STOP -/

theorem stopBody_running {s : State} (running : s.sched.ctrl = .running) : stopBody s = .ok (stopRun s) :=
  whenState_of (beq_iff_eq.mpr running)

theorem stopRun_piece {s : State} (piece : s.line.piece.isSome = true) :
    stopRun s = { s with sched.ctrl := .stopping, sched.held := none } := by
  unfold stopRun
  exact if_neg (by simpa using Option.isSome_iff_ne_none.mp piece)

theorem stopRun_none {s : State} (none : s.line.piece = none) :
    stopRun s = drainEnd { s with sched.ctrl := .stopping, sched.held := .none } := by
  unfold stopRun
  exact if_pos (by simp [none])

/-- Settles O11: `stopRun` with and without a piece in hand. -/
theorem stopBeginsOrEndsTheDraining : Obligations.StopBeginsOrEndsTheDraining := by
  unfold Obligations.StopBeginsOrEndsTheDraining
  intro s arg served running
  have accepted := exec_command_accepted (c := 0x02) (a := arg) (i := .stop arg) rfl served
    (stopBody_running running)
  refine ⟨fun piece => ?_, fun none => ?_⟩
  · rw [accepted, stopRun_piece piece]
  · rw [accepted, stopRun_none none]
    exact ⟨_, rfl, rfl, rfl, rfl, rfl, rfl, rfl, rfl, rfl, rfl, rfl, rfl⟩

/-! ## SOFT_RESET -/

theorem softResetRun_station (s : State) (i : Slot) :
    (softResetRun s).station i = (s.station i).atSoftReset := by
  have stations : (softResetRun s).stations = ((resetLine s).mapStations Station.atSoftReset).stations := rfl
  rw [station_congr stations, station_mapStations]
  rfl

/-- Settles O13: `softResetRun` block by block. -/
theorem softResetResetsEveryBlock : Obligations.SoftResetResetsEveryBlock := by
  unfold Obligations.SoftResetResetsEveryBlock
  intro s arg served
  have accepted : softResetBody s = .ok (softResetRun s) := rfl
  refine ⟨_, exec_command_accepted rfl served accepted, ?_, ?_, rfl, ?_, ?_, rfl, ?_, ?_,
    softResetRun_station s, ?_, ?_⟩
  · simp [State.answered]
  · show (softResetRun s).resetLow = s.resetLow
    simp
  · show (softResetRun s).line = _
    simp [softResetRun, resetLine, engineOff]
  · show (softResetRun s).tb = _
    simp [softResetRun, resetLine, engineOff, TimeBase.atSoftReset, trackerForMode]
  · show (softResetRun s).lists = _
    simp [softResetRun, resetLine, engineOff]
  · show (softResetRun s).images = _
    simp [softResetRun, resetLine, engineOff, Images.atSoftReset]
  · show (softResetRun s).reqs = _
    simp [softResetRun, resetLine, engineOff]
  · show (softResetRun s).events = _
    simp [softResetRun, resetLine, engineOff]

end Sys2Proof.Machine
end

section
/-! 2.2, 3.3 and 4.2: the checks and effects of ENABLE_STATION, DISABLE_STATION, SWITCH_LIST and
COMMIT_OUTPUTS, and what a pending commit freezes. -/

namespace Sys2Proof.Machine

/-! ## ENABLE_STATION -/

/-- The check of R27 in words. -/
theorem areasFit_iff (r : Station) :
    r.areasFit = true ↔ r.outOffset.toNat + r.outLen.toNat ≤ 1024 ∧ r.inOffset.toNat + r.inLen.toNat ≤ 1024 := by
  simp [Station.areasFit]

/-- Two records clash where some byte lies in both out-areas or in both in-areas (R29). -/
theorem overlaps_iff (r q : Station) :
    r.overlaps q = true ↔
      (∃ a, r.outOffset.toNat ≤ a ∧ a < r.outOffset.toNat + r.outLen.toNat
          ∧ q.outOffset.toNat ≤ a ∧ a < q.outOffset.toNat + q.outLen.toNat)
        ∨ ∃ a, r.inOffset.toNat ≤ a ∧ a < r.inOffset.toNat + r.inLen.toNat
          ∧ q.inOffset.toNat ≤ a ∧ a < q.inOffset.toNat + q.inLen.toNat := by
  unfold Station.overlaps
  rw [Bool.or_eq_true, areasOverlap_iff, areasOverlap_iff]

theorem not_addressFree_iff (s : State) (i : Slot) :
    ¬ s.addressFree i = true ↔ ∃ j, j ≠ i ∧ (s.station j).enabled = true
      ∧ (s.station j).address = (s.station i).address := by
  rw [addressFree_iff]
  push Not
  rfl

theorem not_areasFree_iff (s : State) (i : Slot) :
    ¬ s.areasFree i = true ↔ ∃ j, j ≠ i ∧ (s.station j).enabled = true
      ∧ (s.station i).overlaps (s.station j) = true := by
  rw [areasFree_iff]
  push Not
  simp

theorem enableBudgetOk_iff (s : State) (i : Slot) :
    s.enableBudgetOk i = true ↔ s.line.budgetOff = true
      ∨ (s.listFits (some i) s.lists.activeList = true
        ∧ (s.lists.pendingSwitch = true → s.listFits (some i) s.lists.shadowList = true)) := by
  unfold State.enableBudgetOk
  rw [Bool.and_eq_true, Bool.or_eq_true, budgetPasses_iff, budgetPasses_iff]
  cases s.lists.pendingSwitch <;> simp [or_and_left]

theorem enableStationBody_slot {arg : Byte} {i : Slot} (slot : arg.toNat = i.val) (s : State) :
    enableStationBody arg s =
      if (s.station i).enabled then .error .wrongState
      else if !(s.station i).areasFit then .error .badArgument
      else if !s.addressFree i then .error .addressInUse
      else if !s.areasFree i then .error .overlap
      else if !s.enableBudgetOk i then .error .budget
      else .ok (s.modifyStation i Station.enable) := by
  simp only [enableStationBody, slotOfArg_of_eq slot]

theorem enableStationBody_other {arg : Byte} (h : 32 ≤ arg.toNat) (s : State) :
    enableStationBody arg s = .error .badArgument := by
  simp only [enableStationBody, slotOfArg_of_le h]

/-- Settles O14: the checks of `enableStationBody` in their order, each in the words of its rule. -/
theorem enableStationJudgesAndEnables : Obligations.EnableStationJudgesAndEnables := by
  unfold Obligations.EnableStationJudgesAndEnables
  dsimp only
  intro s arg served
  refine ⟨fun other => exec_command_refused rfl served (enableStationBody_other other s),
    fun i slot => ?_⟩
  have body := enableStationBody_slot slot s
  simp only [← areasFit_iff, ← overlaps_iff, ← not_addressFree_iff, ← not_areasFree_iff,
    ← enableBudgetOk_iff, not_not]
  refine ⟨fun enabled => ?_, fun off unfit => ?_, fun off fits taken => ?_, fun off fits free clash => ?_,
    fun off fits free clear tight => ?_, fun off fits free clear budget => ?_⟩
  · exact exec_command_refused rfl served (body.trans (by simp [enabled]))
  · exact exec_command_refused rfl served (body.trans (by simp [off, unfit]))
  · exact exec_command_refused rfl served (body.trans (by simp [off, fits, taken]))
  · exact exec_command_refused rfl served (body.trans (by simp [off, fits, free, clash]))
  · exact exec_command_refused rfl served (body.trans (by simp [off, fits, free, clear, tight]))
  · exact exec_command_accepted rfl served (t := s.modifyStation i Station.enable)
      (body.trans (by simp [off, fits, free, clear, budget]))

/-! ## DISABLE_STATION -/

theorem disableStationBody_slot {arg : Byte} {i : Slot} (slot : arg.toNat = i.val) (s : State) :
    disableStationBody arg s =
      if (s.station i).enabled then .ok (disableRun i s) else .error .wrongState := by
  simp only [disableStationBody, slotOfArg_of_eq slot]

theorem disableStationBody_other {arg : Byte} (h : 32 ≤ arg.toNat) (s : State) :
    disableStationBody arg s = .error .badArgument := by
  simp only [disableStationBody, slotOfArg_of_le h]

/-- DISABLE_STATION marks the head of the queue where its attempt for the slot is on the line (R114). -/
theorem markDisabled_reqs (i : Slot) (s : State) :
    (markDisabled i s).reqs = { s.reqs with
      queue := match s.reqs.queue with
        | [] => []
        | r :: q =>
          if r.inFlight = true ∧ s.attemptOnLine = true ∧ r.slot = i then
            { r with disabledDuring := true } :: q
          else r :: q } := by
  unfold markDisabled State.requestInFlight
  rcases queue : s.reqs.queue with - | ⟨r, q⟩
  · simp [← queue]
  · by_cases flying : r.inFlight = true
    · simp only [flying, if_true, true_and]
      split
      · simp [replaceHead, queue]
      · simp [← queue]
    · simp [flying, ← queue]

theorem disableRun_reqs (i : Slot) (s : State) :
    (disableRun i s).reqs = (markDisabled i (s.modifyStation i Station.disable)).reqs := rfl

theorem markDiscard_discard (i : Slot) (p : Piece) :
    markDiscard i p = { p with discard := match p.work with
      | .exchange j _ _ _ _ _ => p.discard || j == i
      | .sync _ => p.discard
      | .attempt _ _ _ _ => p.discard } := by
  obtain ⟨work, frame, toggleSent, discard, report⟩ := p
  cases work with
  | exchange j a k first stale payload =>
    by_cases same : j = i
    · simp [markDiscard, same]
    · simp [markDiscard, same]
  | sync n => rfl
  | attempt j a service payload => rfl

theorem disableRun_station (i j : Slot) (s : State) :
    (disableRun i s).station j = if j = i then (s.station i).disable else s.station j := by
  have stations : (disableRun i s).stations = (s.modifyStation i Station.disable).stations := by
    simp [disableRun]
  rw [station_congr stations, station_modifyStation]

/-- Settles O15: `disableRun` block by block. -/
theorem disableStationDisablesAndMarks : Obligations.DisableStationDisablesAndMarks := by
  unfold Obligations.DisableStationDisablesAndMarks
  intro s arg served
  refine ⟨fun other => exec_command_refused rfl served (disableStationBody_other other s),
    fun i slot => ⟨fun off => ?_, fun enabled => ?_⟩⟩
  · exact exec_command_refused rfl served ((disableStationBody_slot slot s).trans (by simp [off]))
  · have accepted : disableStationBody arg s = .ok (disableRun i s) :=
      (disableStationBody_slot slot s).trans (by simp [enabled])
    have line := disableRun_line i s
    have reqs := (disableRun_reqs i s).trans (markDisabled_reqs i _)
    have completions : (disableRun i s).reqs.completions = s.reqs.completions := by
      rw [reqs]
      rfl
    have composer : (disableRun i s).reqs.composer = s.reqs.composer := by
      rw [reqs]
      rfl
    have payload : (disableRun i s).reqs.payload = s.reqs.payload := by
      rw [reqs]
      rfl
    refine ⟨_, exec_command_accepted rfl served accepted, ?_⟩
    refine ⟨by simp [State.answered], ?_, fun j other => ?_, fun p piece => ?_, fun none => ?_,
      congrArg Requests.queue reqs, completions, composer, payload, ?_, ?_, ?_, ?_, ?_, ?_, ?_, ?_⟩
    · exact (disableRun_station i i s).trans (if_pos rfl)
    · exact (disableRun_station i j s).trans (if_neg other)
    · refine ⟨markDiscard i p, ?_, ?_⟩
      · show (disableRun i s).line.piece = _
        rw [line, piece]
        rfl
      · rw [markDiscard_discard]
        exact ⟨rfl, rfl, rfl, rfl, rfl⟩
    · show (disableRun i s).line.piece = _
      rw [line, none]
      rfl
    case refine_2.refine_12 =>
      show ({ (disableRun i s).line with piece := s.line.piece } : LineEngine) = s.line
      rw [line]
    all_goals simp [State.answered, disableRun]

/-! ## SWITCH_LIST -/

theorem switchListBody_taken {s : State} (other : s.sched.ctrl ≠ .stopping) :
    switchListBody s =
      if s.lists.pendingSwitch then .error .pending
      else if !s.budgetPasses none s.lists.shadowList then .error .budget
      else if s.sched.ctrl = .running then .ok { s with lists.pendingSwitch := true }
      else .ok { s with lists.active := !s.lists.active } :=
  whenState_of (bne_iff_ne.mpr other)

theorem activeList_switched (l : Lists) : ({ l with active := !l.active } : Lists).activeList = l.shadowList := by
  unfold Lists.activeList Lists.shadowList
  cases l.active <;> rfl

theorem shadowList_switched (l : Lists) : ({ l with active := !l.active } : Lists).shadowList = l.activeList := by
  unfold Lists.activeList Lists.shadowList
  cases l.active <;> rfl

/-- Settles O17: the checks of `switchListBody` in their order. -/
theorem switchListSwitchesOrWaits : Obligations.SwitchListSwitchesOrWaits := by
  unfold Obligations.SwitchListSwitchesOrWaits
  dsimp only
  intro s arg served other
  have body := switchListBody_taken other
  simp only [← budgetPasses_iff]
  refine ⟨fun pending => ?_, fun free unfit => ?_, fun free fits running => ?_, fun free fits elsewhere => ?_⟩
  · exact exec_command_refused rfl served (body.trans (by simp [pending]))
  · exact exec_command_refused rfl served (body.trans (by simp [free, unfit]))
  · exact exec_command_accepted rfl served (t := { s with lists.pendingSwitch := true })
      (body.trans (by simp [free, fits, running]))
  · refine ⟨exec_command_accepted rfl served (t := { s with lists.active := !s.lists.active }) ?_,
      activeList_switched s.lists, shadowList_switched s.lists⟩
    exact body.trans (by simp [free, fits, elsewhere])

/-! ## COMMIT_OUTPUTS, and what a pending commit freezes -/

theorem commitOutputsBody_taken {s : State} (other : s.sched.ctrl ≠ .faulted) :
    commitOutputsBody s =
      if s.images.commitPending then .error .pending
      else .ok { s with images.commitPending := true } :=
  whenState_of (bne_iff_ne.mpr other)

/-- While the commit is still pending, the STAGED bank and all the output banks are those of `s` (R73, R74). -/
def CommitFreezes (s t : State) : Prop :=
  t.images.commitPending = true →
    t.images.staged = s.images.staged ∧ t.images.outBanks = s.images.outBanks

theorem CommitFreezes.of_images {s t : State} (h : t.images = s.images) : CommitFreezes s t := by
  unfold CommitFreezes
  rw [h]
  exact fun _ => ⟨rfl, rfl⟩

theorem CommitFreezes.of_eq {s t u : State} (h : CommitFreezes s t) (images : u.images = t.images) :
    CommitFreezes s u := by
  unfold CommitFreezes at *
  rwa [images]

/-- The outcome of an exchange goes into an input bank; the output banks and the commit stand. -/
theorem commitFreezes_applyExchange {s t : State} (i : Slot) (rep : Report) (h : CommitFreezes s t) :
    CommitFreezes s (applyExchange i rep t) := by
  unfold applyExchange CommitFreezes at *
  split
  case h_5 => exact h
  all_goals simpa [writeOutcome, State.modifyFill] using h

theorem runKeeps_commitFreezes (s : State) : RunKeeps (CommitFreezes s) where
  notice _ _ _ _ _ h := h.of_eq (by simp)
  flags _ _ _ h := h
  sched _ _ h := h
  timeBase _ _ _ _ h := h
  line _ _ _ h := h
  stations _ _ _ h := h
  lists _ _ _ _ h := h
  commit _ _ _ := nofun
  freshCount _ _ h := h
  fill _ _ _ h := h
  publish _ h := h
  exchange _ _ i _ _ _ _ _ rep _ _ _ h := commitFreezes_applyExchange i rep h
  complete _ _ _ _ _ _ h := h
  head _ _ _ _ _ _ _ h := h

theorem trackerKeeps_commitFreezes (s : State) : TrackerKeeps (CommitFreezes s) where
  toRunKeeps := runKeeps_commitFreezes s
  locked _ h := h
  missed _ _ h := h.of_eq (by simp)

/-- An accepted command, where a commit is pending already. -/
theorem commitFreezes_accepted {s t : State} (pending : s.images.commitPending = true)
    (done : Accepted s t) : CommitFreezes s t := by
  have held : CommitFreezes s s := .of_images rfl
  cases done
  case start => exact .of_images (by simp)
  case stop => exact .of_images (by simp)
  case softReset => exact nofun
  case disableStation i _ => exact .of_images (by simp [disableRun])
  case commit free => rw [pending] at free; cases free
  case post =>
    refine (runKeeps_commitFreezes s).quietAdmission ?_
    exact held
  case cancelInFlight r _ => exact (runKeeps_commitFreezes s).quietAdmission (.of_images (by simp))
  case withdraw =>
    refine (runKeeps_commitFreezes s).quietAdmission ?_
    exact held
  case popCompletion =>
    refine (runKeeps_commitFreezes s).quietAdmission ?_
    exact held
  all_goals exact held

theorem commitFreezes_written {s t : State} (pending : s.images.commitPending = true)
    (done : Written s t) : CommitFreezes s t := by
  have held : CommitFreezes s s := .of_images rfl
  cases done
  case config r w _ =>
    unfold storeConfig takeWord
    (repeat' split) <;> exact held
  case staged free => rw [pending] at free; cases free
  all_goals exact held

theorem commitFreezes_takeCommand {s : State} (pending : s.images.commitPending = true) (c a : Byte) :
    CommitFreezes s (takeCommand c a (commandBody c a) s) :=
  takeCommand_keeps (P := CommitFreezes s) (.of_images rfl) (fun _ _ h => h) fun _ _ taken =>
    commitFreezes_accepted pending (accepted_of_ok taken)

theorem commitFreezes_writeReg {s : State} (pending : s.images.commitPending = true) (r : Reg) (w : Word) :
    CommitFreezes s (writeReg r w s) := by
  by_cases command : r = .command
  · subst command
    exact commitFreezes_takeCommand pending _ _
  · exact commitFreezes_written pending (written_of_writeReg command w s)

theorem commitFreezes_writeOffset {s : State} (pending : s.images.commitPending = true) (a : BitVec 6)
    (w : Word) : CommitFreezes s (writeOffset a w s) := by
  unfold writeOffset
  split
  · exact commitFreezes_writeReg pending _ w
  · exact .of_images rfl

theorem readOffset_images (a : BitVec 6) (s : State) : (readOffset a s).2.images = s.images := by
  unfold readOffset
  split
  · simp
  · rfl

theorem commitFreezes_hostRead {s : State} {f : State → Word × State} (h : (f s).2.images = s.images) :
    CommitFreezes s (hostRead f s) :=
  hostRead_keeps (P := CommitFreezes s) (.of_images rfl) (fun _ _ k => k) fun _ => .of_images h

theorem commitFreezes_hostWrite {s : State} {f : State → State} (h : CommitFreezes s (f s)) :
    CommitFreezes s (hostWrite f s) :=
  hostWrite_keeps (P := CommitFreezes s) (.of_images rfl) fun _ => h

/-- The rows that are no access and no command: those that can reach a cycle start keep what `RunKeeps`
keeps, the others leave the Image Store alone. -/
theorem commitFreezes_event {c : Instr} {s t : State} (reset : s.ResetHeld)
    (pending : s.images.commitPending = true) (noCommand : c.commandBytes = none)
    (noAccess : c.isAccess = false) (h : exec c s = .next t) : CommitFreezes s t := by
  have held : CommitFreezes s s := .of_images rfl
  have k := trackerKeeps_commitFreezes s
  cases c <;> simp only [Instr.commandBytes, Instr.isAccess, reduceCtorEq] at noCommand noAccess
  case resetnLow => cases h; exact nofun
  case bufferClearEnd =>
    have outside : s.sched.ctrl ≠ .resetting := by
      intro resetting
      obtain ⟨-, -, -, -, -, -, -, -, -, -, -, -, -, clear, -⟩ := reset.1 resetting
      simp [clear] at pending
    rw [exec_bufferClearEnd_early (by simp [State.clearDue, outside])] at h
    cases h
    exact held
  case syncinEdge e =>
    cases h
    split
    · exact k.trackEdge held
    · exact held
  case cycleTimerExpiry =>
    cases h
    split
    · exact k.cycleTimerExpires held
    · exact held
  case syncWindowExpiry =>
    cases h
    split
    · rename_i due
      exact k.generateStart due held
    · exact held
  case closingGuardEnd =>
    cases h
    split
    · rename_i p rep piece
      exact k.reportPiece rep (StepKeeps.piece_of_closingPiece piece) held
    · exact held
  case startBitMiddleSample level =>
    cases h
    refine .of_images ?_
    cases level <;> split <;> simp
  case timeTick => cases h; exact .of_images (by simp)
  case echoCheck e =>
    cases h
    refine .of_images ?_
    dsimp only
    (repeat' split) <;> simp
  all_goals
    cases h
    refine .of_images ?_
    split <;> simp

theorem commitFreezes_exec {c : Instr} {s t : State} (reset : s.ResetHeld)
    (pending : s.images.commitPending = true) (h : exec c s = .next t) : CommitFreezes s t := by
  match command : c.commandBytes with
  | some (code, arg) =>
    rw [exec_command command] at h
    cases h
    exact commitFreezes_takeCommand pending code arg
  | none =>
    match write : c.writes with
    | some (r, w) =>
      rw [exec_write write] at h
      cases h
      exact commitFreezes_hostWrite (commitFreezes_writeReg pending r w)
    | none =>
      match access : c.isAccess with
      | false => exact commitFreezes_event reset pending command access h
      | true =>
        cases c <;> simp only [Instr.commandBytes, Instr.writes, Instr.isAccess, reduceCtorEq]
          at command write access
        case timeLoRead => cases h; exact commitFreezes_hostRead rfl
        case winDataRead =>
          cases h
          refine commitFreezes_hostRead ?_
          unfold readWindow
          dsimp only
          split <;> rfl
        case registerWrite a w =>
          cases h
          exact commitFreezes_hostWrite (commitFreezes_writeOffset pending a w)
        case unmappedRegisterRead a => cases h; exact commitFreezes_hostRead (readOffset_images a s)

theorem commitFreezes_step {s t : State} (reset : s.ResetHeld) (pending : s.images.commitPending = true)
    (h : step s = .next t) : CommitFreezes s t := by
  match waiting : s.pending with
  | c :: q =>
    rw [step_cons waiting] at h
    exact commitFreezes_exec (s := { s with pending := q }) reset pending h
  | [] =>
    rw [step_nil waiting] at h
    rcases idle_cases s with ⟨-, clock⟩ | ⟨c, -, one⟩ | ⟨c, -, chosen⟩
    · rw [clock] at h
      cases h
      exact .of_images (by simp)
    · rw [one] at h
      exact commitFreezes_exec reset pending h
    · rw [chosen] at h
      exact commitFreezes_exec (s := { s with freeCount := s.freeCount + 1 }) reset pending h

/-- Settles O18: the two answers of COMMIT_OUTPUTS, and `commitFreezes_step`. -/
theorem commitOutputsFreezesStaged : Obligations.CommitOutputsFreezesStaged := by
  unfold Obligations.CommitOutputsFreezesStaged
  refine ⟨fun s arg served other => ⟨fun pending => ?_, fun free => ?_⟩,
    fun s t reset _ pending stepped still => ?_⟩
  · exact exec_command_refused rfl served ((commitOutputsBody_taken other).trans (by simp [pending]))
  · exact exec_command_accepted rfl served (t := { s with images.commitPending := true })
      ((commitOutputsBody_taken other).trans (by simp [free]))
  · obtain ⟨staged, banks⟩ := commitFreezes_step reset pending stepped still
    refine ⟨staged, ?_⟩
    unfold State.stagedBank
    simp only [staged, banks]

end Sys2Proof.Machine
end

section
/-! Chapter 5: admission and its tests, the three queue commands, and the outcomes of an attempt. -/

namespace Sys2Proof.Machine

/-! ## The tests of admission -/

theorem placeFree_iff (r : Requests) : r.placeFree = true ↔ r.completions.length + r.inFlight < 8 := by
  unfold Requests.placeFree
  rw [decide_eq_true_eq]
  rfl

theorem placeTest_iff (r : Request) (s : State) :
    placeTest r s = true ↔ r.inFlight = true ∨ s.reqs.completions.length + s.reqs.inFlight < 8 := by
  unfold placeTest
  rw [Bool.or_eq_true, placeFree_iff]

theorem stationTest_iff (r : Request) (s : State) :
    stationTest r s = true ↔ (s.station r.slot).enabled = true ∧ (s.station r.slot).health ≠ .lost := by
  simp [stationTest]

theorem deadlineTest_iff (r : Request) (s : State) :
    deadlineTest r s = true ↔
      r.deadline = 0 ∨ (s.sched.cycle - r.postedCycle).toNat < r.deadline.toNat := by
  simp [deadlineTest]

theorem inWindow_iff (t : TimeBase) (expected now : Time) :
    t.inWindow expected now = true ↔
      (now - (expected - t.syncTol.zeroExtend 32)).toNat ≤ 2 * t.syncTol.toNat := by
  unfold TimeBase.inWindow
  rw [decide_eq_true_eq]

/-- The time test asks for an expected start, for room before it, and in external mode for a window that has
not opened (R102). -/
theorem timeTest_iff (r : Request) (s : State) :
    timeTest r s = true ↔ ∃ e, s.tb.nextStart = some e
      ∧ r.worstMicros s.line + s.tb.reserve.toNat + (if s.tb.external then s.tb.syncTol.toNat else 0)
          ≤ (e - s.tb.time).toNat
      ∧ (s.tb.external = true →
          2 * s.tb.syncTol.toNat < (s.tb.time - (e - s.tb.syncTol.zeroExtend 32)).toNat) := by
  unfold timeTest
  split
  · rename_i none
    simp [none]
  · rename_i e start
    have window : (!(s.tb.external && s.tb.inWindow e s.tb.time)) = true ↔ (s.tb.external = true →
        2 * s.tb.syncTol.toNat < (s.tb.time - (e - s.tb.syncTol.zeroExtend 32)).toNat) := by
      rw [Bool.not_eq_true', Bool.and_eq_false_imp]
      refine imp_congr_right fun _ => ?_
      rw [← Bool.not_eq_true, inWindow_iff, Nat.not_le]
    rw [Bool.and_eq_true, window, decide_eq_true_eq, start]
    simp only [Option.some.injEq, exists_eq_left']
    rfl

/-! ## Admission -/

theorem admission_nil {s : State} (empty : s.reqs.queue = []) :
    admission s = { s with sched.phase := .quiet } := by
  unfold admission
  rw [empty]
  rfl

/-- Admission of a queue with a head: its tests in their order (R98). -/
theorem admission_cons {s : State} {r : Request} {q : List Request} (queue : s.reqs.queue = r :: q) :
    admission s =
      if !placeTest r s then { s with sched.phase := .quiet }
      else if !stationTest r s then
        admission (completeHead (r.completion .stationUnavailable s.tb.time s.sched.cycle) s)
      else if !deadlineTest r s then
        admission (completeHead (r.completion .expired s.tb.time s.sched.cycle) s)
      else if !timeTest r s then { s with sched.phase := .quiet }
      else startAttempt r s := by
  have rest (c : Completion) : (completeHead c s).reqs.queue = q := by
    simp [completeHead, placeCompletion, queue]
  unfold admission
  rw [rest, rest, queue, List.length_cons, admitHeads, queue]

/-- The head leaves the queue, and its record stands at the tail of the completions (R109). -/
theorem completeHead_cons {s : State} {r : Request} {q : List Request} (queue : s.reqs.queue = r :: q)
    (c : Completion) :
    completeHead c s
      = { s with reqs.queue := q, reqs.completions := s.reqs.completions ++ [c] } := by
  simp [completeHead, placeCompletion, queue]

/-- Settles O20: the tests of `admission_cons` in their order, each in the words of its rule. -/
theorem admissionExaminesTheHead : Obligations.AdmissionExaminesTheHead := by
  unfold Obligations.AdmissionExaminesTheHead
  dsimp only
  refine ⟨fun s => rfl, fun s empty => admission_nil empty, fun s r q queue => ?_⟩
  have body := admission_cons queue
  rw [completeHead_cons queue, completeHead_cons queue] at body
  have time := timeTest_iff r s
  unfold Request.worstMicros LineEngine.micros LineEngine.clocks LineEngine.pollBits at time
  rw [← placeTest_iff, ← stationTest_iff, ← deadlineTest_iff, ← time]
  refine ⟨fun full => ?_, fun place unavailable => ?_, fun place station late => ?_,
    fun place station inTime noTime => ?_, fun place station inTime fits => ?_⟩
  · simpa [full] using body
  · simpa [place, unavailable, Request.completion] using body
  · simpa [place, station, late, Request.completion] using body
  · simpa [place, station, inTime, noTime] using body
  · rw [body]
    simp only [place, station, inTime, fits, Bool.not_true, Bool.false_eq_true, if_false]
    unfold startAttempt replaceHead
    simp only [queue, List.tail_cons]

/-! ## POST_REQUEST and POP_COMPLETION -/

theorem readMany_eq_map (m : Memory) (a n : Nat) :
    Memory.readMany m a n = (List.range n).map fun k => Memory.read m (a + k) := by
  induction n generalizing a with
  | zero => rfl
  | succ n ih =>
    rw [Memory.readMany, ih, List.range_succ_eq_map, List.map_cons, List.map_map]
    simp [Function.comp_def, Nat.add_assoc, Nat.add_comm 1]

theorem postRequestBody_full {s : State} (full : 8 ≤ s.reqs.queue.length) :
    postRequestBody s = .error .queueFull :=
  if_pos full

theorem postRequestBody_room {s : State} (room : s.reqs.queue.length < 8) :
    postRequestBody s
      = .ok (quietAdmission { s with reqs.queue := s.reqs.queue ++ [s.composedRequest] }) :=
  if_neg (Nat.not_le.mpr room)

theorem popCompletionBody_nil {s : State} (empty : s.reqs.completions = []) :
    popCompletionBody s = .error .empty := by
  unfold popCompletionBody
  rw [empty]

theorem popCompletionBody_cons {s : State} {c : Completion} {cs : List Completion}
    (head : s.reqs.completions = c :: cs) :
    popCompletionBody s = .ok (quietAdmission { s with reqs.completions := cs }) := by
  unfold popCompletionBody
  rw [head]

theorem composedRequest_eq (s : State) :
    s.composedRequest =
      { tag := s.reqs.composer.tag, slot := s.reqs.composer.slot, service := s.reqs.composer.service
        payload := (List.range s.reqs.composer.length.toNat).map fun k => Memory.read s.reqs.payload k
        replyMax := s.reqs.composer.replyMax, retryLimit := s.reqs.composer.retryLimit
        deadline := s.reqs.composer.deadline, postedCycle := s.sched.cycle } := by
  unfold State.composedRequest
  simp only [readMany_eq_map, Nat.zero_add]

/-- Settles O21: `postRequestBody` by the length of the queue, `popCompletionBody` by its head. -/
theorem postRequestAndPopCompletion : Obligations.PostRequestAndPopCompletion := by
  unfold Obligations.PostRequestAndPopCompletion
  intro s arg served
  refine ⟨fun full => ?_, fun room => ?_, fun empty => ?_, fun c cs head => ?_⟩
  · exact exec_command_refused rfl served (postRequestBody_full full)
  · rw [exec_command_accepted (c := 0x40) (a := arg) rfl served (postRequestBody_room room),
      composedRequest_eq]
  · exact exec_command_refused rfl served (popCompletionBody_nil empty)
  · exact exec_command_accepted rfl served (popCompletionBody_cons head)

/-! ## CANCEL_REQUEST -/

/-- The oldest waiting request with the tag is withdrawn from its place (R111). -/
theorem withdraw_append {tag : Byte} {a b : List Request} {r : Request}
    (earlier : ∀ x ∈ a, ¬ (x.tag = tag ∧ x.inFlight = false)) (waits : r.tag = tag ∧ r.inFlight = false) :
    withdraw tag (a ++ r :: b) = some (r, a ++ b) := by
  induction a with
  | nil => exact if_pos waits
  | cons x xs ih =>
    have other := earlier x List.mem_cons_self
    have found := ih fun y listed => earlier y (List.mem_cons_of_mem x listed)
    rw [List.cons_append, withdraw, if_neg other, found]
    rfl

theorem withdraw_eq_none {tag : Byte} {l : List Request}
    (none : ∀ x ∈ l, ¬ (x.tag = tag ∧ x.inFlight = false)) : withdraw tag l = .none := by
  induction l with
  | nil => rfl
  | cons x xs ih =>
    have other := none x List.mem_cons_self
    have nothing := ih fun y listed => none y (List.mem_cons_of_mem x listed)
    rw [withdraw, if_neg other, nothing]
    rfl

theorem requestInFlight_cons {s : State} {r : Request} {q : List Request} (queue : s.reqs.queue = r :: q)
    (flying : r.inFlight = true) : s.requestInFlight = some r := by
  unfold State.requestInFlight
  rw [queue]
  exact if_pos flying

theorem cancelFindsInFlight_head {s : State} {tag : Byte} {r : Request} {q : List Request}
    (queue : s.reqs.queue = r :: q) (same : r.tag = tag) (flying : r.inFlight = true)
    (unmarked : r.cancelRequested = false) : cancelFindsInFlight tag s = some r := by
  unfold cancelFindsInFlight
  rw [requestInFlight_cons queue flying]
  simp [Option.filter, same, unmarked]

theorem cancelFindsInFlight_none {s : State} {tag : Byte}
    (nothing : ∀ r ∈ s.reqs.queue, ¬ (r.tag = tag ∧ r.inFlight = true ∧ r.cancelRequested = false)) :
    cancelFindsInFlight tag s = none := by
  unfold cancelFindsInFlight
  rw [Option.filter_eq_none_iff]
  intro r inFlight accepts
  obtain ⟨flying, q, queue⟩ := RunKeeps.requestInFlight_eq_some inFlight
  obtain ⟨same, unmarked⟩ : r.tag = tag ∧ r.cancelRequested = false := by simpa using accepts
  exact nothing r (by simp [queue]) ⟨same, flying, unmarked⟩

theorem cancelRequestBody_found {s : State} {tag : Byte} {r : Request}
    (found : cancelFindsInFlight tag s = some r) :
    cancelRequestBody tag s = .ok (quietAdmission (cancelInFlight r s)) := by
  unfold cancelRequestBody
  rw [found]

theorem cancelRequestBody_waiting {s : State} {tag : Byte} {r : Request} {rest : List Request}
    (none : cancelFindsInFlight tag s = .none) (waits : withdraw tag s.reqs.queue = some (r, rest)) :
    cancelRequestBody tag s =
      if s.reqs.placeFree then .ok (quietAdmission (withdrawQueued r rest s)) else .error .completionFull := by
  unfold cancelRequestBody
  rw [none, waits]

theorem cancelRequestBody_nothing {s : State} {tag : Byte} (none : cancelFindsInFlight tag s = .none)
    (nothing : withdraw tag s.reqs.queue = .none) : cancelRequestBody tag s = .error .notFound := by
  unfold cancelRequestBody
  rw [none, nothing]

/-- Settles O22: the request in flight first, then the oldest that waits, then nothing. -/
theorem cancelRequestFindsItsRequest : Obligations.CancelRequestFindsItsRequest := by
  unfold Obligations.CancelRequestFindsItsRequest
  dsimp only
  intro s tag served held
  refine ⟨fun r q queue ⟨same, flying, unmarked⟩ onLine => ?_,
    fun r q queue ⟨same, flying, unmarked⟩ between => ?_, fun none => ⟨fun a r b queue waits earlier => ?_,
      fun nothing => ?_⟩⟩
  · have body := cancelRequestBody_found (cancelFindsInFlight_head queue same flying unmarked)
    rw [exec_command_accepted (c := 0x41) (a := tag) rfl served body]
    simp [cancelInFlight, onLine, replaceHead, queue]
  · have body := cancelRequestBody_found (cancelFindsInFlight_head queue same flying unmarked)
    rw [exec_command_accepted (c := 0x41) (a := tag) rfl served body]
    simp [cancelInFlight, between, completeHead_cons queue, Request.completion]
  · have listed : r ∈ s.reqs.queue := by simp [queue]
    have found : withdraw tag s.reqs.queue = some (r, a ++ b) := by
      rw [queue]
      exact withdraw_append earlier waits
    have body := cancelRequestBody_waiting (cancelFindsInFlight_none none) found
    refine ⟨fun room => ⟨?_, held.2.2.2 r listed waits.2⟩, fun full => ?_⟩
    · rw [if_pos ((placeFree_iff _).mpr room)] at body
      exact exec_command_accepted rfl served body
    · rw [if_neg ((placeFree_iff _).not.mpr (Nat.not_lt.mpr full))] at body
      exact exec_command_refused rfl served body
  · have body := cancelRequestBody_nothing (cancelFindsInFlight_none none) (withdraw_eq_none nothing)
    exact exec_command_refused rfl served body

/-! ## The outcome of an attempt -/

theorem applyAttempt_good {s : State} {r : Request} {q : List Request} (queue : s.reqs.queue = r :: q)
    (flying : r.inFlight = true) (len : Byte) (flags : BitVec 4) (payload : List Byte) (time : Time) :
    applyAttempt { outcome := .good len flags payload, time := time } s
      = applyAttemptGood r len flags payload time s := by
  simp only [applyAttempt, requestInFlight_cons queue flying]

theorem goodOutcome_eq (r : Request) (len : Byte) (flags : BitVec 4) :
    goodOutcome r len flags = if flags.getLsbD 3 then .refused
      else if len.toNat ≤ r.replyMax.toNat then .done else .oversize := by
  unfold goodOutcome flagRefused
  by_cases small : len.toNat ≤ r.replyMax.toNat
  · rw [if_pos small, if_neg (Nat.not_lt.mpr small)]
  · rw [if_neg small, if_pos (Nat.lt_of_not_le small)]

theorem replaceHead_self {s : State} {r : Request} {q : List Request} (queue : s.reqs.queue = r :: q) :
    replaceHead r s = s := by
  unfold replaceHead
  rw [queue, List.tail_cons, ← queue]

/-- The three failures of an attempt have one effect (R106, R107). -/
theorem applyAttempt_failed {s : State} {r : Request} {q : List Request} (queue : s.reqs.queue = r :: q)
    (flying : r.inFlight = true) {o : PieceOutcome} (time : Time)
    (failed : o = .timeout ∨ o = .collision ∨ ∃ e, o = .error e) :
    applyAttempt { outcome := o, time := time } s = applyAttemptFailure r time s := by
  rcases failed with rfl | rfl | ⟨e, rfl⟩
  all_goals simp only [applyAttempt, requestInFlight_cons queue flying]

/-- Settles O55: a good reply by its flags and its length, a failure by the lines of Table 5-2. -/
theorem attemptOutcomesAreApplied : Obligations.AttemptOutcomesAreApplied := by
  unfold Obligations.AttemptOutcomesAreApplied
  dsimp only
  intro s r q o time queue flying
  refine ⟨fun len flags payload good => ?_, fun failed => ?_⟩
  · subst good
    rw [applyAttempt_good queue flying]
    unfold applyAttemptGood
    rw [completeHead_cons (s := s.modifyStation r.slot _) queue]
    rw [goodOutcome_eq]
    rfl
  · rw [applyAttempt_failed queue flying time failed]
    unfold applyAttemptFailure
    simp only [completeHead_cons queue, Request.completion]
    refine ⟨fun cancelled => ?_, fun kept disabled => ?_, fun kept enabled retries => ?_,
      fun kept enabled spent => ?_⟩
    · simp [cancelled]
    · simp [kept, disabled]
    · have same : { r with disabledDuring := false } = r := by
        rw [← enabled]
      rw [if_neg (by simp [kept]), if_neg (by simp [enabled]), if_pos retries, same,
        replaceHead_self queue]
    · simp [kept, enabled, spent]

end Sys2Proof.Machine
end

section
/-! 10.2: what a read of each register shows, field by field, and the writes of the station, composer and
configuration registers. -/

namespace Sys2Proof.Machine

/-! ## Fields of a concatenation -/

/-- A field above the lower part is a field of the upper part. -/
theorem extractLsb_append_skip {v w : Nat} (x : BitVec v) (y : BitVec w) (start len : Nat) :
    (x ++ y).extractLsb' (w + start) len = x.extractLsb' start len := by
  rw [BitVec.extractLsb'_append_eq_of_le (Nat.le_add_right w start), Nat.add_sub_cancel_left]

/-- A bit above the lower part is a bit of the upper part. -/
theorem getLsbD_append_skip {v w : Nat} (x : BitVec v) (y : BitVec w) (k : Nat) :
    (x ++ y).getLsbD (w + k) = x.getLsbD k := by
  rw [BitVec.getLsbD_append, if_neg (by omega), Nat.add_sub_cancel_left]

/-! ## STATE and STN_STATUS -/

/-- The fields of Table 10-2, from the lowest up. -/
theorem stateWord_fields (s : State) :
    s.stateWord.extractLsb' 0 3 = s.sched.ctrl.code ∧ s.stateWord.extractLsb' 3 3 = s.sched.phase.code
      ∧ s.stateWord.extractLsb' 6 3 = s.tb.tracker.code ∧ s.stateWord.getLsbD 9 = s.images.stale
      ∧ s.stateWord.getLsbD 10 = s.images.commitPending ∧ s.stateWord.getLsbD 11 = s.lists.pendingSwitch
      ∧ s.stateWord.getLsbD 12 = s.images.inputFresh ∧ s.stateWord.extractLsb' 13 3 = 0 := by
  refine ⟨BitVec.extractLsb'_append_eq_right, ?_, ?_, ?_, ?_, ?_, ?_, ?_⟩
  · exact (extractLsb_append_skip _ _ 0 3).trans BitVec.extractLsb'_append_eq_right
  · exact (extractLsb_append_skip _ _ 3 3).trans <| (extractLsb_append_skip _ _ 0 3).trans
      BitVec.extractLsb'_append_eq_right
  · exact (getLsbD_append_skip _ _ 6).trans <| (getLsbD_append_skip _ _ 3).trans <|
      (getLsbD_append_skip _ _ 0).trans <| getLsbD_append_ofBool_zero _ _
  · exact (getLsbD_append_skip _ _ 7).trans <| (getLsbD_append_skip _ _ 4).trans <|
      (getLsbD_append_skip _ _ 1).trans <| (getLsbD_append_skip _ _ 0).trans <|
      getLsbD_append_ofBool_zero _ _
  · exact (getLsbD_append_skip _ _ 8).trans <| (getLsbD_append_skip _ _ 5).trans <|
      (getLsbD_append_skip _ _ 2).trans <| (getLsbD_append_skip _ _ 1).trans <|
      (getLsbD_append_skip _ _ 0).trans <| getLsbD_append_ofBool_zero _ _
  · exact (getLsbD_append_skip _ _ 9).trans <| (getLsbD_append_skip _ _ 6).trans <|
      (getLsbD_append_skip _ _ 3).trans <| (getLsbD_append_skip _ _ 2).trans <|
      (getLsbD_append_skip _ _ 1).trans <| (getLsbD_append_skip _ _ 0).trans <|
      getLsbD_append_ofBool_zero _ _
  · show (0#3 ++ BitVec.ofBool _ ++ BitVec.ofBool _ ++ BitVec.ofBool _ ++ BitVec.ofBool _ ++ TrackerState.code _
      ++ Phase.code _ ++ CtrlState.code _).extractLsb' 13 3 = _
    iterate 6 rw [BitVec.extractLsb'_append_eq_of_le (by decide)]
    exact BitVec.extractLsb'_append_eq_left

/-- The fields of Table 10-3, from the lowest up. -/
theorem statusWord_fields (r : Station) :
    r.statusWord.getLsbD 0 = r.enabled ∧ r.statusWord.extractLsb' 1 3 = r.health.code
      ∧ r.statusWord.extractLsb' 4 4 = r.consecutiveMiss ∧ r.statusWord.getLsbD 8 = r.toggle
      ∧ r.statusWord.getLsbD 9 = r.lastReady ∧ r.statusWord.getLsbD 10 = r.lastAlarm
      ∧ r.statusWord.extractLsb' 11 5 = 0 := by
  refine ⟨getLsbD_append_ofBool_zero _ _, ?_, ?_, ?_, ?_, ?_, ?_⟩
  · exact (extractLsb_append_skip _ _ 0 3).trans BitVec.extractLsb'_append_eq_right
  · exact (extractLsb_append_skip _ _ 3 4).trans <| (extractLsb_append_skip _ _ 0 4).trans
      BitVec.extractLsb'_append_eq_right
  · exact (getLsbD_append_skip _ _ 7).trans <| (getLsbD_append_skip _ _ 4).trans <|
      (getLsbD_append_skip _ _ 0).trans <| getLsbD_append_ofBool_zero _ _
  · exact (getLsbD_append_skip _ _ 8).trans <| (getLsbD_append_skip _ _ 5).trans <|
      (getLsbD_append_skip _ _ 1).trans <| (getLsbD_append_skip _ _ 0).trans <|
      getLsbD_append_ofBool_zero _ _
  · exact (getLsbD_append_skip _ _ 9).trans <| (getLsbD_append_skip _ _ 6).trans <|
      (getLsbD_append_skip _ _ 2).trans <| (getLsbD_append_skip _ _ 1).trans <|
      (getLsbD_append_skip _ _ 0).trans <| getLsbD_append_ofBool_zero _ _
  · show (0#5 ++ BitVec.ofBool _ ++ BitVec.ofBool _ ++ BitVec.ofBool _ ++ r.consecutiveMiss ++ Health.code _
      ++ BitVec.ofBool _).extractLsb' 11 5 = _
    iterate 5 rw [BitVec.extractLsb'_append_eq_of_le (by decide)]
    exact BitVec.extractLsb'_append_eq_left

theorem stale_eq (m : Images) :
    m.stale = decide (m.freshLimit ≠ 0 ∧ m.freshLimit.toNat ≤ m.freshCount.toNat) := by
  unfold Images.stale
  rw [Bool.eq_iff_iff]
  simp [BitVec.le_def]

/-! ## Reads and writes by offset -/

theorem readReg_plain {r : Reg} (time : r ≠ .timeLo) (window : r ≠ .winData) (s : State) :
    readReg r s = (s.regWord r, s) := by
  cases r
  case timeLo => exact absurd rfl time
  case winData => exact absurd rfl window
  all_goals rfl

theorem readOffset_of_regAt {a : BitVec 6} {r : Reg} (mapped : regAt a = some r) (s : State) :
    readOffset a s = readReg r s := by
  unfold readOffset
  rw [mapped]

theorem exec_unmappedRegisterRead_served {a : BitVec 6} {s t : State} {w : Word} (served : s.serves)
    (read : readOffset a s = (w, t)) : exec (.unmappedRegisterRead a) s = .next (t.driving w) := by
  show Host.Outcome.next (hostRead (readOffset a) s) = _
  rw [hostRead_served served, read]
  rfl

theorem exec_registerWrite_served {a : BitVec 6} {w : Word} {s t : State} (served : s.serves)
    (write : writeOffset a w s = t) : exec (.registerWrite a w) s = .next t := by
  show Host.Outcome.next (hostWrite (writeOffset a w) s) = _
  rw [hostWrite_served served, write]

theorem regAt_none_iff (a : BitVec 6) : regAt a = none ↔ a ∈ unmappedOffsets := by
  revert a
  decide

/-- Settles O24: reads and writes by offset, the fields of the status words, and the tables of codes. -/
theorem registerReadsAndUnmappedOffsets : Obligations.RegisterReadsAndUnmappedOffsets := by
  unfold Obligations.RegisterReadsAndUnmappedOffsets
  refine ⟨fun s a r served mapped time window => ?_, fun s a w served => ⟨fun wf => ?_, fun wf => ?_,
    regAt_none_iff a⟩, fun s => ?_, by decide, by decide, by decide, by decide, by decide⟩
  · exact exec_unmappedRegisterRead_served served
      ((readOffset_of_regAt mapped s).trans (readReg_plain time window s))
  · exact exec_registerWrite_served served (writeOffset_of_wellFormed wf s)
  · exact exec_unmappedRegisterRead_served served (readOffset_of_wellFormed wf s)
  · obtain ⟨ctrl, phase, tracker, stale, commit, switch, fresh, top⟩ := stateWord_fields s
    obtain ⟨enabled, health, miss, toggle, ready, alarm, high⟩ :=
      statusWord_fields (s.station s.port.stnSel)
    exact ⟨ctrl, phase, tracker, stale.trans (stale_eq _), commit, switch, fresh, top, enabled, health, miss,
      toggle, ready, alarm, high, rfl, rfl, rfl, rfl, rfl, word_eq_append (k := 8) _, rfl, rfl, rfl, rfl,
      rfl, rfl, rfl⟩

/-! ## The station registers -/

theorem slotOfWord_of_eq {w : Word} {i : Slot} (h : w.toNat = i.val) : slotOfWord w = some i := by
  have inside : w.toNat < 32 := h ▸ i.isLt
  have same : (⟨w.toNat, inside⟩ : Slot) = i := Fin.ext h
  rw [slotOfWord, dif_pos inside, same]

theorem slotOfWord_of_le {w : Word} (h : 32 ≤ w.toNat) : slotOfWord w = none :=
  dif_neg (Nat.not_lt.mpr h)

/-- The top field of a word is its quotient. -/
theorem extract_top_toNat (w : Word) : (w.extractLsb' 10 6).toNat = w.toNat / 1024 := by
  rw [BitVec.extractLsb'_toNat, Nat.shiftRight_eq_div_pow]
  have := w.isLt
  omega

/-- A word that is taken where a condition holds. -/
theorem takeWord_ite {α : Type} (c : Prop) [Decidable c] (x : α) (f : α → State → State) (s : State) :
    takeWord (if c then some x else none) f s = if c then f x s else s.withAccess := by
  split <;> rfl

theorem writeStationConfig_enabled {s : State} (enabled : (s.station s.port.stnSel).enabled = true)
    (c : StationReg) (w : Word) : writeStationConfig c w s = s.withAccess := by
  unfold writeStationConfig
  dsimp only
  rw [enabled]
  rfl

theorem writeStationConfig_disabled {s : State} (off : (s.station s.port.stnSel).enabled = false)
    (c : StationReg) (w : Word) :
    writeStationConfig c w s =
      takeWord ((s.station s.port.stnSel).configured c w) (fun q s => s.setStation s.port.stnSel q) s := by
  unfold writeStationConfig
  dsimp only
  rw [off]
  rfl

theorem areaOfWord_eq (w : Word) :
    areaOfWord w = if w.toNat / 1024 ≤ 32 then some (w.extractLsb' 10 6, w.extractLsb' 0 10) else none := by
  unfold areaOfWord
  rw [extract_top_toNat]

theorem limitsOfWord_eq (w : Word) :
    limitsOfWord w = if w.extractLsb' 0 4 ≠ 0 ∧ w.extractLsb' 4 4 = 0 ∧ w.extractLsb' 8 8 ≠ 0 then
      some (w.extractLsb' 0 4, w.extractLsb' 8 8) else none := by
  unfold limitsOfWord
  refine if_congr ?_ rfl rfl
  tauto

/-- Mapping the fields of a word into a record keeps the condition on the word. -/
theorem map_ite_some {α β : Type} (c : Prop) [Decidable c] (x : α) (f : α → β) :
    (if c then some x else none).map f = if c then some (f x) else none := by
  split <;> rfl

/-- An outcome chosen by a condition on the word. -/
theorem next_ite (c : Prop) [Decidable c] (s t : State) :
    Host.Outcome.next (ρ := Refusal) (φ := Fault) (if c then s else t) = if c then .next s else .next t := by
  split <;> rfl

theorem writeStnSel_of_eq {w : Word} {i : Slot} (slot : w.toNat = i.val) (s : State) :
    writeStnSel w s = { s with port.stnSel := i } := by
  rw [writeStnSel, slotOfWord_of_eq slot, takeWord_some]

theorem writeStnSel_of_le {w : Word} (outside : 32 ≤ w.toNat) (s : State) :
    writeStnSel w s = s.withAccess := by
  rw [writeStnSel, slotOfWord_of_le outside, takeWord_none]

/-- Settles O27: the selection by the slot of the word, the four writes by the range of its fields. -/
theorem stationRegistersSelectAndConfigure : Obligations.StationRegistersSelectAndConfigure := by
  unfold Obligations.StationRegistersSelectAndConfigure
  dsimp only
  intro s w served
  refine ⟨fun i slot => ?_, fun outside => ?_, fun enabled c => ?_, fun off => ⟨?_, ?_, ?_, ?_⟩,
    word_eq_append (k := 10) (n := 6) _, rfl, rfl, rfl⟩
  · exact exec_write_served rfl served (writeStnSel_of_eq slot s)
  · exact exec_write_served rfl served (writeStnSel_of_le outside s)
  · exact exec_write_served rfl served (writeStationConfig_enabled enabled c w)
  · rw [← next_ite]
    refine exec_write_served rfl served ((writeStationConfig_disabled off _ w).trans ?_)
    rw [Station.configured, addressOfWord, map_ite_some, takeWord_ite]
  · rw [← next_ite]
    refine exec_write_served rfl served ((writeStationConfig_disabled off _ w).trans ?_)
    rw [Station.configured, areaOfWord_eq, map_ite_some, takeWord_ite]
  · rw [← next_ite]
    refine exec_write_served rfl served ((writeStationConfig_disabled off _ w).trans ?_)
    rw [Station.configured, areaOfWord_eq, map_ite_some, takeWord_ite]
  · rw [← next_ite]
    refine exec_write_served rfl served ((writeStationConfig_disabled off _ w).trans ?_)
    rw [Station.configured, limitsOfWord_eq, map_ite_some, takeWord_ite]

/-! ## The composer registers -/

theorem writeComposer_eq (r : ComposerReg) (w : Word) (s : State) :
    writeComposer r w s =
      takeWord (s.reqs.composer.written r w) (fun c s => { s with reqs.composer := c }) s := rfl

/-- A word below 256 is its low byte; the statement writes the bound with ≤. -/
theorem byteOfWord_eq (w : Word) :
    byteOfWord w = if w.toNat ≤ 255 then some (w.extractLsb' 0 8) else none :=
  if_congr Nat.lt_succ_iff rfl rfl

theorem serviceOfWord_eq (w : Word) :
    serviceOfWord w = if w.toNat ≤ 127 then some (w.extractLsb' 0 7) else none :=
  if_congr Nat.lt_succ_iff rfl rfl

/-- Settles O31: each composer register by the range of its field. -/
theorem composerRegistersStore : Obligations.ComposerRegistersStore := by
  unfold Obligations.ComposerRegistersStore
  dsimp only
  intro s w served
  simp only [← next_ite]
  refine ⟨?_, fun i slot => ?_, fun outside => ?_, ?_, ?_, ?_, ?_, word_eq_append (k := 8) (n := 8) _,
    rfl, word_eq_append (k := 9) (n := 7) _, word_eq_append (k := 9) (n := 7) _,
    word_eq_append (k := 9) (n := 7) _, rfl⟩
  · refine exec_write_served rfl served ((writeComposer_eq _ w s).trans ?_)
    rw [Composer.written, byteOfWord_eq, map_ite_some, takeWord_ite]
  · refine exec_write_served rfl served ((writeComposer_eq _ w s).trans ?_)
    rw [Composer.written, slotOfWord_of_eq slot]
    rfl
  · refine exec_write_served rfl served ((writeComposer_eq _ w s).trans ?_)
    rw [Composer.written, slotOfWord_of_le outside]
    rfl
  · refine exec_write_served rfl served ((writeComposer_eq _ w s).trans ?_)
    rw [Composer.written, serviceOfWord_eq, map_ite_some, takeWord_ite]
  · refine exec_write_served rfl served ((writeComposer_eq _ w s).trans ?_)
    rw [Composer.written, payloadLengthOfWord, map_ite_some, takeWord_ite]
  · refine exec_write_served rfl served ((writeComposer_eq _ w s).trans ?_)
    rw [Composer.written, payloadLengthOfWord, map_ite_some, takeWord_ite]
  · refine exec_write_served rfl served ((writeComposer_eq _ w s).trans ?_)
    rw [Composer.written, requestCtlOfWord, map_ite_some, takeWord_ite]
    rfl

/-! ## The configuration registers -/

theorem writeConfig_config {s : State} (config : s.sched.ctrl = .config) (r : ConfigReg) (w : Word) :
    writeConfig r w s = storeConfig r w s :=
  if_pos config

theorem writeSyncMode_config {s : State} (config : s.sched.ctrl = .config) (w : Word) :
    writeSyncMode w s = takeWord (syncModeOfWord w) storeSyncMode s :=
  if_pos config

theorem writeSyncMode_outside {s : State} (other : s.sched.ctrl ≠ .config) (w : Word) :
    writeSyncMode w s = s.withAccess :=
  if_neg other

theorem lineModeOfWord_eq (w : Word) :
    lineModeOfWord w = if w.toNat ≤ 15 then some (w.extractLsb' 0 3, w.getLsbD 3) else none :=
  if_congr Nat.lt_succ_iff rfl rfl

theorem periodHiOfWord_eq (w : Word) :
    periodHiOfWord w = if w.toNat ≤ 15 then some (w.extractLsb' 0 4) else none :=
  if_congr Nat.lt_succ_iff rfl rfl

theorem syncModeOfWord_eq (w : Word) :
    syncModeOfWord w = if w.toNat ≤ 3 then some (w.getLsbD 0, w.getLsbD 1) else none :=
  if_congr Nat.lt_succ_iff rfl rfl

/-- Settles O33: outside CONFIG every write is ignored; in CONFIG each register by its own rule. -/
theorem configurationRegistersStoreInConfig : Obligations.ConfigurationRegistersStoreInConfig := by
  unfold Obligations.ConfigurationRegistersStoreInConfig
  dsimp only
  intro s w served
  simp only [← next_ite]
  refine ⟨fun other => ⟨fun r => ?_, ?_⟩, fun config => ?_, rfl, rfl, rfl, rfl, rfl, rfl,
    word_eq_append (k := 12) (n := 4) _, rfl, rfl, word_eq_append (k := 8) (n := 8) _, rfl⟩
  · exact exec_write_served rfl served (writeConfig_outside other r w)
  · exact exec_write_served rfl served (writeSyncMode_outside other w)
  · have stored (r : ConfigReg) : exec (.configRegisterWrite r w) s = .next (storeConfig r w s) :=
      exec_write_served rfl served (writeConfig_config config r w)
    have mode : exec (.syncModeWrite w) s = .next (takeWord (syncModeOfWord w) storeSyncMode s) :=
      exec_write_served rfl served (writeSyncMode_config config w)
    simp only [stored]
    refine ⟨?_, rfl, rfl, rfl, rfl, rfl, ?_, rfl, rfl, ?_, ?_⟩
    · rw [storeConfig, lineModeOfWord_eq, takeWord_ite]
    · rw [storeConfig, periodHiOfWord_eq, takeWord_ite]
    · rw [storeConfig, byteOfWord_eq, takeWord_ite]
    · rw [mode, syncModeOfWord_eq, takeWord_ite]
      rfl

end Sys2Proof.Machine
end

section
/-! 10.3: the buffer window, region by region of Table 10-4. -/

namespace Sys2Proof.Machine

/-! ## The regions -/

theorem windowPlace_staged {a : Nat} (high : a < 0x400) : windowPlace a = .staged a := if_pos high

theorem windowPlace_heldData {a : Nat} (low : 0x400 ≤ a) (high : a < 0x800) :
    windowPlace a = .heldData (a - 0x400) := by
  unfold windowPlace
  rw [if_neg (by omega), if_pos high]

theorem windowPlace_heldSlot {a i : Nat} (inTable : i < 32) (low : 0x800 + 16 * i ≤ a)
    (high : a < 0x800 + 16 * i + 16) : windowPlace a = .heldSlot i (a - (0x800 + 16 * i)) := by
  have record : (a - 0x800) / 16 = i := by omega
  have offset : (a - 0x800) % 16 = a - (0x800 + 16 * i) := by omega
  unfold windowPlace
  rw [if_neg (by omega), if_neg (by omega), if_pos (by omega), record, offset]

theorem windowPlace_heldSummary {a : Nat} (low : 0xA00 ≤ a) (high : a < 0xA20) :
    windowPlace a = .heldSummary (a - 0xA00) := by
  unfold windowPlace
  rw [if_neg (by omega), if_neg (by omega), if_neg (by omega), if_pos high]

theorem windowPlace_composer {a : Nat} (low : 0xB00 ≤ a) (high : a < 0xB78) :
    windowPlace a = .composer (a - 0xB00) := by
  unfold windowPlace
  rw [if_neg (by omega), if_neg (by omega), if_neg (by omega), if_neg (by omega), if_neg (by omega),
    if_pos high]

theorem windowPlace_completionHeader {a : Nat} (low : 0xC00 ≤ a) (high : a < 0xC10) :
    windowPlace a = .completionHeader (a - 0xC00) := by
  unfold windowPlace
  rw [if_neg (by omega), if_neg (by omega), if_neg (by omega), if_neg (by omega), if_neg (by omega),
    if_neg (by omega), if_neg (by omega), if_pos high]

theorem windowPlace_completionPayload {a : Nat} (low : 0xC10 ≤ a) (high : a < 0xC88) :
    windowPlace a = .completionPayload (a - 0xC10) := by
  unfold windowPlace
  rw [if_neg (by omega), if_neg (by omega), if_neg (by omega), if_neg (by omega), if_neg (by omega),
    if_neg (by omega), if_neg (by omega), if_neg (by omega), if_pos high]

theorem windowPlace_eventHead {a : Nat} (low : 0xD00 ≤ a) (high : a < 0xD10) :
    windowPlace a = .eventHead (a - 0xD00) := by
  unfold windowPlace
  rw [if_neg (by omega), if_neg (by omega), if_neg (by omega), if_neg (by omega), if_neg (by omega),
    if_neg (by omega), if_neg (by omega), if_neg (by omega), if_neg (by omega), if_neg (by omega),
    if_pos high]

theorem windowPlace_unmapped {a : Nat}
    (gap : (0xA20 ≤ a ∧ a < 0xB00) ∨ (0xB78 ≤ a ∧ a < 0xC00) ∨ (0xC88 ≤ a ∧ a < 0xD00) ∨ 0xD10 ≤ a) :
    windowPlace a = .unmapped := by
  unfold windowPlace
  rw [if_neg (by omega), if_neg (by omega), if_neg (by omega), if_neg (by omega)]
  split
  · rfl
  rw [if_neg (by omega)]
  split
  · rfl
  rw [if_neg (by omega), if_neg (by omega)]
  split
  · rfl
  rw [if_neg (by omega)]

/-! ## Reads -/

/-- A read of a mapped address drives the byte there and the next one, and advances WIN_ADDR (R184). -/
theorem exec_winDataRead_mapped {s : State} (served : s.serves)
    (mapped : windowPlace s.port.winAddr.toNat ≠ .unmapped) :
    exec .winDataRead s = .next ({ s with port.winAddr := s.port.winAddr + 2 }.driving
      (s.windowByte (windowPlace (s.port.winAddr.toNat + 1))
        ++ s.windowByte (windowPlace s.port.winAddr.toNat))) := by
  have state : (readWindow s).2 = advanceWindow s := if_neg mapped
  rw [exec_winDataRead_served served, state]
  rfl

theorem exec_winDataRead_unmapped {s : State} (served : s.serves)
    (unmapped : windowPlace s.port.winAddr.toNat = .unmapped)
    (next : windowPlace (s.port.winAddr.toNat + 1) = .unmapped) :
    exec .winDataRead s
      = .next ({ s with port.winAddr := s.port.winAddr + 2 }.withAccess.driving 0) := by
  have state : (readWindow s).2 = setAccess (advanceWindow s) := if_pos unmapped
  have word : (readWindow s).1 = 0 := by
    show s.windowWord = 0
    rw [State.windowWord, unmapped, next]
    show wordOf 0 0 = 0
    decide
  rw [exec_winDataRead_served served, state, word]
  rfl

/-- Both bytes of a read lie in one region, whose bytes `f` gives. -/
theorem exec_winDataRead_region {s : State} (served : s.serves) {f : Nat → Byte} {p q : WindowPlace}
    (low : windowPlace s.port.winAddr.toNat = p) (high : windowPlace (s.port.winAddr.toNat + 1) = q)
    (mapped : p ≠ .unmapped) (lowByte : s.windowByte p = f s.port.winAddr.toNat)
    (highByte : s.windowByte q = f (s.port.winAddr.toNat + 1)) :
    exec .winDataRead s = .next ({ s with port.winAddr := s.port.winAddr + 2 }.driving
      (f (s.port.winAddr.toNat + 1) ++ f s.port.winAddr.toNat)) := by
  rw [exec_winDataRead_mapped served (low.symm ▸ mapped), high, low, lowByte, highByte]

theorem windowByte_staged (s : State) (k : Nat) :
    s.windowByte (.staged k) = Memory.read s.images.outBanks[s.images.staged] k := rfl

theorem windowByte_heldData (s : State) (k : Nat) :
    s.windowByte (.heldData k) = Memory.read s.images.inBanks[s.images.heldBank].data k := rfl

theorem windowByte_heldSummary (s : State) (k : Nat) :
    s.windowByte (.heldSummary k) = s.images.inBanks[s.images.heldBank].summary.bytes.getD k 0 := rfl

theorem windowByte_composer (s : State) (k : Nat) :
    s.windowByte (.composer k) = Memory.read s.reqs.payload k := rfl

theorem windowByte_heldSlot (s : State) (i : Slot) (k : Nat) :
    s.windowByte (.heldSlot i.val k)
      = (s.images.inBanks[s.images.heldBank].slots[i]).bytes.getD k 0 := by
  have record : s.heldInBank.slots.toList.getD i.val {} = s.images.inBanks[s.images.heldBank].slots[i] := by
    rw [List.getD_eq_getElem _ _ (by simp)]
    simp [State.heldInBank]
  exact congrArg (fun r => r.bytes.getD k 0) record

theorem windowByte_completionHeader (s : State) (k : Nat) :
    s.windowByte (.completionHeader k)
      = ((s.reqs.completions.head?.map Completion.headerBytes).getD []).getD k 0 := by
  unfold State.windowByte
  cases s.reqs.completions <;> rfl

theorem windowByte_completionPayload (s : State) (k : Nat) :
    s.windowByte (.completionPayload k)
      = ((s.reqs.completions.head?.map Completion.payload).getD []).getD k 0 := by
  unfold State.windowByte
  cases s.reqs.completions <;> rfl

theorem windowByte_eventHead (s : State) (k : Nat) :
    s.windowByte (.eventHead k)
      = ((s.events.queue.head?.map EventRecord.bytes).getD []).getD k 0 := by
  unfold State.windowByte
  cases s.events.queue <;> rfl

/-- Settles O35: an even address and the next lie in one region. -/
theorem windowReadsByRegion : Obligations.WindowReadsByRegion := by
  unfold Obligations.WindowReadsByRegion
  intro s served even a reads
  have region {f : Nat → Byte} {p q : WindowPlace} (low : windowPlace a = p) (high : windowPlace (a + 1) = q)
      (mapped : p ≠ .unmapped) (lowByte : s.windowByte p = f a) (highByte : s.windowByte q = f (a + 1)) :
      reads f :=
    exec_winDataRead_region served low high mapped lowByte highByte
  have evenAddress : a % 2 = 0 := even
  refine ⟨fun high => ?_, fun low high => ?_, fun i low high => ?_, fun low high => ?_,
    fun low high => ?_, fun low high => ?_, fun low high => ?_, fun low high => ?_, fun gap => ?_⟩
  · exact region (f := fun x => Memory.read s.images.outBanks[s.images.staged] x) (windowPlace_staged high)
      (windowPlace_staged (by omega)) nofun (windowByte_staged s _) (windowByte_staged s _)
  · exact region (f := fun x => Memory.read s.images.inBanks[s.images.heldBank].data (x - 0x400))
      (windowPlace_heldData low high) (windowPlace_heldData (by omega) (by omega)) nofun
      (windowByte_heldData s _) (windowByte_heldData s _)
  · exact region (f := fun x =>
        (s.images.inBanks[s.images.heldBank].slots[i]).bytes.getD (x - (0x800 + 16 * i.val)) 0)
      (windowPlace_heldSlot i.isLt low high) (windowPlace_heldSlot i.isLt (by omega) (by omega)) nofun
      (windowByte_heldSlot s i _) (windowByte_heldSlot s i _)
  · exact region (f := fun x => s.images.inBanks[s.images.heldBank].summary.bytes.getD (x - 0xA00) 0)
      (windowPlace_heldSummary low high) (windowPlace_heldSummary (by omega) (by omega)) nofun
      (windowByte_heldSummary s _) (windowByte_heldSummary s _)
  · exact region (f := fun x => Memory.read s.reqs.payload (x - 0xB00)) (windowPlace_composer low high)
      (windowPlace_composer (by omega) (by omega)) nofun (windowByte_composer s _) (windowByte_composer s _)
  · exact region (f := fun x =>
        ((s.reqs.completions.head?.map Completion.headerBytes).getD []).getD (x - 0xC00) 0)
      (windowPlace_completionHeader low high) (windowPlace_completionHeader (by omega) (by omega)) nofun
      (windowByte_completionHeader s _) (windowByte_completionHeader s _)
  · exact region (f := fun x =>
        ((s.reqs.completions.head?.map Completion.payload).getD []).getD (x - 0xC10) 0)
      (windowPlace_completionPayload low high) (windowPlace_completionPayload (by omega) (by omega)) nofun
      (windowByte_completionPayload s _) (windowByte_completionPayload s _)
  · exact region (f := fun x => ((s.events.queue.head?.map EventRecord.bytes).getD []).getD (x - 0xD00) 0)
      (windowPlace_eventHead low high) (windowPlace_eventHead (by omega) (by omega)) nofun
      (windowByte_eventHead s _) (windowByte_eventHead s _)
  · exact exec_winDataRead_unmapped served (windowPlace_unmapped gap)
      (windowPlace_unmapped (a := a + 1) (by omega))

/-! ## Writes -/

theorem exec_winDataWrite_served {s t : State} {w : Word} (served : s.serves) (store : storeWindow w s = t) :
    exec (.winDataWrite w) s = .next (advanceWindow t) :=
  exec_write_served rfl served (congrArg advanceWindow store)

theorem storeWindow_staged {s : State} {a : Nat} (place : windowPlace s.port.winAddr.toNat = .staged a)
    (free : s.images.commitPending = false) (w : Word) : storeWindow w s = storeStaged a w s := by
  unfold storeWindow
  rw [place]
  simp [free]

theorem storeWindow_frozen {s : State} {a : Nat} (place : windowPlace s.port.winAddr.toNat = .staged a)
    (pending : s.images.commitPending = true) (w : Word) : storeWindow w s = s.withAccess := by
  unfold storeWindow
  rw [place]
  simp only [pending, if_true]
  rfl

theorem storeWindow_composer {s : State} {k : Nat} (place : windowPlace s.port.winAddr.toNat = .composer k)
    (w : Word) : storeWindow w s
      = { s with reqs.payload := Memory.writeAll s.reqs.payload k (wordBytes w) } := by
  unfold storeWindow
  rw [place]

/-- Every place but the STAGED bank and the composer payload ignores a write (R184). -/
theorem storeWindow_ignored {s : State} (notStaged : ∀ a, windowPlace s.port.winAddr.toNat ≠ .staged a)
    (notComposer : ∀ k, windowPlace s.port.winAddr.toNat ≠ .composer k) (w : Word) :
    storeWindow w s = s.withAccess := by
  unfold storeWindow
  split
  · rename_i a place
    exact absurd place (notStaged a)
  · rename_i k place
    exact absurd place (notComposer k)
  all_goals rfl

/-- The two bytes of a word stored in a canonical memory. -/
theorem read_writeAll_wordBytes {m : Memory} (wf : Memory.wf m) (a x : Nat) (w : Word) :
    Memory.read (Memory.writeAll m a (wordBytes w)) x =
      if x = a then w.extractLsb' 0 8 else if x = a + 1 then w.extractLsb' 8 8 else Memory.read m x := by
  rw [wordBytes, Memory.writeAll, Memory.writeAll, Memory.writeAll, Memory.read_write (Memory.wf_write a _ wf),
    Memory.read_write wf]
  by_cases first : x = a
  · rw [if_neg (by omega), if_pos first, if_pos first]
    rfl
  · by_cases second : x = a + 1
    · rw [if_pos second, if_neg first, if_pos second]
      rfl
    · rw [if_neg second, if_neg first, if_neg first, if_neg second]

/-- Settles O36: `storeWindow` by the region of WIN_ADDR. -/
theorem windowWritesByRegion : Obligations.WindowWritesByRegion := by
  unfold Obligations.WindowWritesByRegion
  dsimp only
  intro s w served _ memory payload
  obtain ⟨outBanks, -⟩ := memory
  refine ⟨fun high free => ?_, fun high pending => ?_, fun low high => ?_, fun elsewhere => ?_⟩
  · refine ⟨_, exec_winDataWrite_served served (storeWindow_staged (windowPlace_staged high) free w), rfl,
      fun x => ?_, fun k other => ?_⟩
    · show Memory.read (s.images.outBanks.set s.images.staged _)[s.images.staged] x = _
      rw [Fin.getElem_fin, Vector.getElem_set_self]
      exact read_writeAll_wordBytes (outBanks s.images.staged) _ x w
    · show (s.images.outBanks.set s.images.staged _)[k] = _
      rw [Fin.getElem_fin, Vector.getElem_set_ne]
      · rfl
      · exact fun same => other (Fin.ext same.symm)
  · exact exec_winDataWrite_served served (storeWindow_frozen (windowPlace_staged high) pending w)
  · exact ⟨_, exec_winDataWrite_served served (storeWindow_composer (windowPlace_composer low high) w), rfl,
      fun x => read_writeAll_wordBytes payload _ x w⟩
  · refine exec_winDataWrite_served served (storeWindow_ignored (fun a place => ?_) (fun k place => ?_) w)
    · obtain ⟨-, below⟩ := staged_of_windowPlace place
      omega
    · obtain ⟨-, above, below⟩ := composer_of_windowPlace place
      omega

end Sys2Proof.Machine
end

section
/-! Notices and line counters, the budget, and the delivery of cycle starts: the expiries of the Time Base, the
edges of SYNCIN and the Scheduler's answers. -/

namespace Sys2Proof.Machine

/-! ## Notices and line counters -/

theorem notify_of_lt {s : State} (room : s.events.queue.length < 32) (c : EventCode) (b : Byte) (n d : Word) :
    notify c b n d s
      = { s with events.queue := s.events.queue ++ [⟨c, b, n, s.tb.time, d⟩] } :=
  if_pos room

theorem notify_of_le {s : State} (full : 32 ≤ s.events.queue.length) (c : EventCode) (b : Byte) (n d : Word) :
    notify c b n d s = { s with events.lossCount := satIncByte s.events.lossCount } :=
  if_neg (Nat.not_lt.mpr full)

/-- FRAMES_SENT and REPLIES_GOOD wrap, the others saturate (R151). -/
theorem LineCounter.next_eq (c : LineCounter) (w : Word) :
    c.next w = if 2 ≤ c.index.val ∧ w = 0xFFFF#16 then 0xFFFF#16 else w + 1 := by
  have saturates (above : 2 ≤ c.index.val) :
      satIncWord w = if 2 ≤ c.index.val ∧ w = 0xFFFF#16 then 0xFFFF#16 else w + 1 := by
    unfold satIncWord
    by_cases top : w = 0xFFFF#16
    · simp [top, above]
    · simp [top]
  cases c
  case framesSent => exact (if_neg (fun h => absurd h.1 (by decide))).symm
  case repliesGood => exact (if_neg (fun h => absurd h.1 (by decide))).symm
  all_goals exact saturates (by decide)

/-- Settles O43: the three cases of `notify`, and `LineCounter.next_eq`. -/
theorem noticesAndLineCounters : Obligations.NoticesAndLineCounters := by
  unfold Obligations.NoticesAndLineCounters
  refine ⟨fun c slot cycle detail s => ⟨fun room => notify_of_lt room c slot cycle detail,
    fun full below => ?_, fun full top => ?_⟩, fun c s => ⟨?_, by decide⟩⟩
  · have next : satIncByte s.events.lossCount = s.events.lossCount + 1 := if_neg below
    rw [notify_of_le full, next]
  · have same : satIncByte s.events.lossCount = s.events.lossCount := if_pos top
    rw [notify_of_le full, same]
  · show countLine c s = _
    rw [countLine, LineCounter.next_eq]

/-! ## The budget -/

/-- The stored values that the budget needs in range (R30, R49). -/
theorem budgetValuesOk_iff (s : State) :
    s.budgetValuesOk = true ↔ s.line.rateCode.toNat ≤ 5
      ∧ (8 ≤ s.line.respWin.toNat ∧ s.line.respWin.toNat ≤ 255)
      ∧ (1 ≤ s.line.charGap.toNat ∧ s.line.charGap.toNat ≤ 63)
      ∧ (2 ≤ s.line.guardTime.toNat ∧ s.line.guardTime.toNat ≤ 63)
      ∧ (100 ≤ s.tb.period.toNat ∧ s.tb.period.toNat ≤ 1000000)
      ∧ s.tb.reserve.toNat ≤ 1000 := by
  simp only [State.budgetValuesOk, Bool.and_eq_true, decide_eq_true_eq, and_assoc]

theorem entryMicros_eq (s : State) (enabling : Option Slot) (e : ListEntry) :
    s.entryMicros enabling e =
      if (s.station e.slot).enabled = true ∨ enabling = some e.slot then
        ((11 * ((s.station e.slot).outLen.toNat + 5) + s.line.respWin.toNat
          + 11 * ((s.station e.slot).inLen.toNat + 5)
          + ((s.station e.slot).inLen.toNat + 4) * s.line.charGap.toNat + s.line.guardTime.toNat)
            * bitClocks s.line.rateCode + 31) / 32
      else 0 := by
  unfold State.entryMicros
  simp only [Bool.or_eq_true, beq_iff_eq]
  rfl

/-- Settles O45: the range of the values, and the sum of `entryMicros`. -/
theorem budgetCountsEveryEntry : Obligations.BudgetCountsEveryEntry := by
  unfold Obligations.BudgetCountsEveryEntry
  dsimp only
  intro s enabling l
  refine ⟨?_, by decide⟩
  unfold State.listFits
  rw [Bool.and_eq_true, budgetValuesOk_iff, decide_eq_true_eq]
  have entries : s.entryMicros enabling = _ := funext (entryMicros_eq s enabling)
  rw [State.listMicros, entries]
  rfl

/-! ## The expiries of the Time Base -/

theorem exec_cycleTimerExpiry (s : State) :
    exec .cycleTimerExpiry s = .next (if s.cycleTimerDue then cycleTimerExpires s else s) := rfl

theorem exec_syncWindowExpiry (s : State) :
    exec .syncWindowExpiry s = .next (if s.syncWindowDue then generateStart s else s) := rfl

theorem exec_cycleTimerExpiry_due {s : State} {e : Time} (start : s.tb.nextStart = some e)
    (armed : s.tb.armed = true) (internal : s.tb.external = false)
    (reached : (s.tb.time - e).toNat < 2 ^ 31) :
    exec .cycleTimerExpiry s
      = .next (answerStart e { s with tb.nextStart := some (e + s.tb.period.zeroExtend 32) }) := by
  rw [exec_cycleTimerExpiry, if_pos ((cycleTimerDue_iff s).mpr ⟨armed, internal, e, start, reached⟩),
    cycleTimerExpires, start]
  rfl

theorem exec_cycleTimerExpiry_early {s : State} (notDue : ¬ s.cycleTimerDue = true) :
    exec .cycleTimerExpiry s = .next s := by
  rw [exec_cycleTimerExpiry, if_neg notDue]

theorem exec_syncWindowExpiry_due {s : State} {e : Time} (start : s.tb.nextStart = some e)
    (due : s.syncWindowDue = true) :
    exec .syncWindowExpiry s
      = .next (answerStart (e + s.tb.syncTol.zeroExtend 32)
          { countMiss s with tb.nextStart := some (e + s.tb.period.zeroExtend 32) }) := by
  rw [exec_syncWindowExpiry, if_pos due, generateStart, start]
  rfl

theorem exec_syncWindowExpiry_early {s : State} (notDue : ¬ s.syncWindowDue = true) :
    exec .syncWindowExpiry s = .next s := by
  rw [exec_syncWindowExpiry, if_neg notDue]

theorem countMiss_unlocked {s : State} (unlocked : s.tb.tracker = .unlocked) : countMiss s = s :=
  if_pos unlocked

theorem countMiss_third {s : State} (tracking : s.tb.tracker = .locked ∨ s.tb.tracker = .coasting)
    (two : s.tb.missCount = 2) :
    countMiss s = notify .syncUnlocked 0xFF s.sched.cycle 0
      (notify .syncMissed 0xFF s.sched.cycle 0 { s with tb.missCount := 3, tb.tracker := .unlocked }) := by
  have locked : s.tb.tracker ≠ .unlocked := by rcases tracking with t | t <;> simp [t]
  unfold countMiss
  rw [if_neg locked, if_pos two]
  simp [notifySync]

theorem countMiss_other {s : State} (tracking : s.tb.tracker = .locked ∨ s.tb.tracker = .coasting)
    (notTwo : s.tb.missCount ≠ 2) :
    countMiss s = notify .syncMissed 0xFF s.sched.cycle 0
      { s with tb.missCount := s.tb.missCount + 1, tb.tracker := .coasting } := by
  have locked : s.tb.tracker ≠ .unlocked := by rcases tracking with t | t <;> simp [t]
  unfold countMiss
  rw [if_neg locked, if_neg notTwo]
  rfl

/-- Settles O39: each expiry while it is due and while it is not, and the miss by the tracker's state. -/
theorem expiriesDeliverGridStarts : Obligations.ExpiriesDeliverGridStarts := by
  unfold Obligations.ExpiriesDeliverGridStarts
  dsimp only
  intro s
  refine ⟨fun e start armed internal => ⟨fun reached => ?_, fun ahead => ?_⟩, fun cannot => ?_,
    fun e start armed external => ⟨fun reached => ?_, fun ahead => ?_⟩, fun cannot => ?_⟩
  · exact exec_cycleTimerExpiry_due start armed internal reached
  · refine exec_cycleTimerExpiry_early fun due => ?_
    obtain ⟨-, -, x, start', reached⟩ := (cycleTimerDue_iff s).mp due
    rw [start] at start'
    cases start'
    omega
  · refine exec_cycleTimerExpiry_early fun due => ?_
    obtain ⟨armed, internal, x, start, -⟩ := (cycleTimerDue_iff s).mp due
    simp [armed, internal, start] at cannot
  · have due (tracking : s.tb.tracker = .locked ∨ s.tb.tracker = .coasting ∨ s.tb.tracker = .unlocked) :
        s.syncWindowDue = true :=
      (syncWindowDue_iff s).mpr ⟨armed, external, tracking, e, start, reached⟩
    refine ⟨fun tracking notTwo => ?_, fun tracking two => ?_, fun unlocked => ?_⟩
    · rw [exec_syncWindowExpiry_due start (due (by tauto)), countMiss_other tracking notTwo]
    · rw [exec_syncWindowExpiry_due start (due (by tauto)), countMiss_third tracking two]
    · rw [exec_syncWindowExpiry_due start (due (by tauto)), countMiss_unlocked unlocked]
  · refine exec_syncWindowExpiry_early fun due => ?_
    obtain ⟨-, -, -, x, start', reached⟩ := (syncWindowDue_iff s).mp due
    rw [start] at start'
    cases start'
    omega
  · refine exec_syncWindowExpiry_early fun due => ?_
    obtain ⟨armed, external, tracking, x, start, -⟩ := (syncWindowDue_iff s).mp due
    rcases tracking with t | t | t <;> simp [armed, external, start, t] at cannot

/-! ## The edges of SYNCIN -/

theorem qualifies_iff (t : TimeBase) (e : SyncEdge) : t.qualifies e = true ↔ (t.falling = true ↔ e = .falling) := by
  unfold TimeBase.qualifies
  cases e <;> simp

theorem exec_syncinEdge (s : State) (e : SyncEdge) :
    exec (.syncinEdge e) s
      = .next (if s.tb.armed && s.tb.external && s.tb.qualifies e then trackEdge s else s) := rfl

theorem exec_syncinEdge_examined {s : State} {e : SyncEdge} (examined : s.tb.armed = true
    ∧ s.tb.external = true ∧ (s.tb.falling = true ↔ e = .falling)) :
    exec (.syncinEdge e) s = .next (trackEdge s) := by
  obtain ⟨armed, external, edge⟩ := examined
  rw [exec_syncinEdge, armed, external, (qualifies_iff s.tb e).mpr edge]
  rfl

theorem exec_syncinEdge_ignored {s : State} {e : SyncEdge} (ignored : ¬ (s.tb.armed = true
    ∧ s.tb.external = true ∧ (s.tb.falling = true ↔ e = .falling))) :
    exec (.syncinEdge e) s = .next s := by
  rw [exec_syncinEdge, if_neg]
  simpa only [Bool.and_eq_true, qualifies_iff, and_assoc] using ignored

theorem acceptEdge_eq (s : State) : acceptEdge s = answerStart s.tb.time { s with
    tb.tracker := .locked, tb.missCount := 0
    tb.nextStart := some (s.tb.time + s.tb.period.zeroExtend 32) } := rfl

/-- An accepted edge that a notice precedes: the notice leaves TIME and the period alone. -/
theorem trackEdge_notified {s : State} (tracker : s.tb.tracker = .acquiring ∨ s.tb.tracker = .unlocked) :
    trackEdge s = acceptEdge (notify .syncLocked 0xFF s.sched.cycle 0 s) := by
  unfold trackEdge
  rcases tracker with t | t <;> rw [t] <;> rfl

theorem trackEdge_expected {s : State} (tracker : s.tb.tracker = .locked ∨ s.tb.tracker = .coasting) {x : Time}
    (start : s.tb.nextStart = some x) :
    trackEdge s = if s.tb.inWindow x s.tb.time then acceptEdge s else countLine .strayEdges s := by
  have examined : trackEdge s = examineEdge s := by
    unfold trackEdge
    rcases tracker with t | t <;> rw [t]
  rw [examined, examineEdge, start]

/-- Settles O40: an edge that is not examined, one that is accepted, one that is examined against the window. -/
theorem syncinEdgesAreAcceptedOrStray : Obligations.SyncinEdgesAreAcceptedOrStray := by
  unfold Obligations.SyncinEdgesAreAcceptedOrStray
  dsimp only
  intro s e
  refine ⟨exec_syncinEdge_ignored, fun examined tracker => ?_, fun examined tracker x start =>
    ⟨fun inside => ?_, fun outside => ?_⟩⟩
  · rw [exec_syncinEdge_examined examined, trackEdge_notified tracker, acceptEdge_eq]
    simp
  · rw [exec_syncinEdge_examined examined, trackEdge_expected tracker start,
      if_pos ((inWindow_iff _ _ _).mpr inside), acceptEdge_eq]
  · rw [exec_syncinEdge_examined examined, trackEdge_expected tracker start,
      if_neg ((inWindow_iff _ _ _).not.mpr (Nat.not_le.mpr outside))]

/-! ## The Scheduler's answers -/

theorem answerStart_running {s : State} (running : s.sched.ctrl = .running) (e : Time) :
    ((s.sched.phase = .awaitFirst ∨ s.sched.phase = .quiet) → answerStart e s = takeStart e none s)
      ∧ ((s.sched.phase = .sync ∨ s.sched.phase = .cyclic) → answerStart e s = refuseStart s)
      ∧ (s.sched.phase = .acyclic → answerStart e s = answerAcyclic e s) := by
  unfold answerStart
  rw [running]
  refine ⟨fun phase => ?_, fun phase => ?_, fun phase => ?_⟩
  · rcases phase with p | p <;> rw [p]
  · rcases phase with p | p <;> rw [p]
  · rw [phase]

theorem answerStart_other {s : State} (other : s.sched.ctrl ≠ .running) (e : Time) : answerStart e s = s := by
  unfold answerStart
  split
  · rename_i running
    exact absurd running other
  all_goals rfl

/-- The lateness saturates at 65535 (R57). -/
theorem lateness_toNat (e now : Time) : (lateness e now).toNat = min (now - e).toNat 65535 := by
  unfold lateness
  split
  · rename_i short
    rw [BitVec.toNat_setWidth, Nat.mod_eq_of_lt short]
    omega
  · rename_i long
    show 65535 = _
    omega

/-- Settles O41: Table 3-2 by phase and by the start held. -/
theorem cycleStartAnswers : Obligations.CycleStartAnswers := by
  unfold Obligations.CycleStartAnswers
  refine ⟨fun s e => ⟨fun running => ?_, fun other => answerStart_other other e⟩,
    fun s e => ⟨_, lateness_toNat e s.tb.time, rfl⟩⟩
  obtain ⟨free, busy, acyclic⟩ := answerStart_running running e
  refine ⟨free, busy, fun phase attempt none => ?_, fun phase attempt held => ?_, fun phase noAttempt => ?_⟩
  · rw [acyclic phase, answerAcyclic, if_pos attempt, none]
  · obtain ⟨h, held⟩ := Option.isSome_iff_exists.mp held
    rw [acyclic phase, answerAcyclic, if_pos attempt, held]
    rfl
  · rw [acyclic phase, answerAcyclic, if_neg (by simp [noAttempt])]

end Sys2Proof.Machine
end

section
/-! The passing of time and the SYNCOUT pulse, and the work at a taken cycle start. -/

namespace Sys2Proof.Machine

/-! ## The work at a taken start -/

/-- A notice that follows a change of the latched flags: the flags are none of its business. -/
theorem notify_events_flags (s : State) (outTaken : Bool) (c : EventCode) (b : Byte) (n d : Word) :
    (notify c b n d { s with events.outTakenFlag := outTaken }).events
      = { (notify c b n d s).events with outTakenFlag := outTaken } := by
  unfold notify
  dsimp only
  split <;> rfl

theorem notify_outTakenFlag (c : EventCode) (b : Byte) (n d : Word) (s : State) :
    (notify c b n d s).events.outTakenFlag = s.events.outTakenFlag := by
  unfold notify
  split <;> rfl

/-- The cycle number of a taken start (R54). -/
def State.startCycle (s : State) : Word :=
  if s.sched.phase = .awaitFirst then s.sched.cycle else s.sched.cycle + 1

theorem setCycleNumber_eq (s : State) : setCycleNumber s = { s with sched.cycle := s.startCycle } := by
  unfold setCycleNumber State.startCycle
  split <;> rfl

/-- The freshness count of an output step without a commit (R76). -/
theorem satIncByte_eq (b : Byte) : satIncByte b = if b = 0xFF#8 then 0xFF#8 else b + 1 := by
  unfold satIncByte
  split
  · rename_i top
    exact top
  · rfl

theorem outputStep_images (s : State) :
    (outputStep s).images = { s.images with
      live := if s.images.commitPending then s.images.staged else s.images.live
      staged := if s.images.commitPending then s.images.live else s.images.staged
      commitPending := false
      freshCount := if s.images.commitPending then 0 else satIncByte s.images.freshCount } := by
  unfold outputStep
  cases pending : s.images.commitPending with
  | true =>
    simp only [if_true]
    unfold applyCommit
    dsimp only
    split <;> simp
  | false =>
    simp only [Bool.false_eq_true, if_false]
    unfold advanceFreshness
    dsimp only
    split <;> simp [pending]

theorem outputStep_events (s : State) :
    (outputStep s).events =
      { (if s.images.commitPending = true then
          (if s.images.stale then notify .outputResumed 0xFF s.sched.cycle 0 s else s)
        else if s.images.freshLimit ≠ 0 ∧ s.images.stale = false
            ∧ satIncByte s.images.freshCount = s.images.freshLimit then
          notify .outputStale 0xFF s.sched.cycle 0 s
        else s).events with
        outTakenFlag := s.events.outTakenFlag || s.images.commitPending } := by
  unfold outputStep
  cases pending : s.images.commitPending with
  | true =>
    simp only [if_true, Bool.or_true]
    unfold applyCommit
    dsimp only
    split
    · refine (notify_events_congr (s := { s with events.outTakenFlag := true }) ?_ ?_ _ _ _ _).trans
        (notify_events_flags s true _ _ _ _)
      · rfl
      · rfl
    · rfl
  | false =>
    simp only [Bool.false_eq_true, if_false, Bool.or_false]
    unfold advanceFreshness
    dsimp only
    split
    · rw [← notify_outTakenFlag .outputStale 0xFF s.sched.cycle 0 s]
      exact notify_events_congr (s := s) (by rfl) (by rfl) _ _ _ _
    · rfl

theorem postLate_events {s t : State} (events : t.events = s.events) (time : t.tb.time = s.tb.time)
    (late : Option Word) :
    (postLate late t).events =
      (match late with
        | some d => notify .lateStart 0xFF t.sched.cycle d s
        | none => s).events := by
  unfold postLate
  cases late with
  | some d => exact notify_events_congr events time _ _ _ _
  | none => exact events

theorem handOver_sync_line {s t : State} (line : t.line = s.line) (time : t.tb.time = s.tb.time) (n : Word) :
    (handOver (.sync n) t).line = (handOver (.sync n) s).line := by
  unfold handOver
  rw [line]
  split
  · simp only [beginTransmit, resetFirstToggle, toggleOfWork, line, time]
  · rfl

theorem handOver_sync_stations (n : Word) (s : State) : (handOver (.sync n) s).stations = s.stations := by
  unfold handOver
  split <;> rfl

/-- The state in which the output step of a taken start runs: the number set, LATE_START posted, the list
switched. -/
def State.switched (s : State) (late : Option Word) : State := applySwitch (postLate late (setCycleNumber s))

theorem takeStart_eq (start : Time) (late : Option Word) (s : State) :
    takeStart start late s
      = sendSync (stepProbes (prepareFill start (late.getD 0) (outputStep (s.switched late)))) := rfl

theorem switched_sched (s : State) (late : Option Word) :
    (s.switched late).sched = { s.sched with cycle := s.startCycle } := by
  simp [State.switched, setCycleNumber_eq]

theorem switched_lists (s : State) (late : Option Word) :
    (s.switched late).lists = { s.lists with
      active := if s.lists.pendingSwitch then !s.lists.active else s.lists.active, pendingSwitch := false } := by
  have lists : (postLate late (setCycleNumber s)).lists = s.lists := by simp
  unfold State.switched
  rw [applySwitch_lists, lists]
  cases pending : s.lists.pendingSwitch with
  | true => rfl
  | false =>
    have same : ({ s.lists with pendingSwitch := false } : Lists) = s.lists := by rw [← pending]
    exact same.symm

theorem switched_rest (s : State) (late : Option Word) :
    (s.switched late).images = s.images ∧ (s.switched late).tb = s.tb ∧ (s.switched late).line = s.line
      ∧ (s.switched late).stations = s.stations := by
  simp [State.switched]

theorem takeStart_tb (start : Time) (late : Option Word) (s : State) :
    (takeStart start late s).tb = { s.tb with syncout := some 0 } := by
  simp [takeStart, sendSync]

theorem takeStart_station (start : Time) (late : Option Word) (s : State) (i : Slot) :
    (takeStart start late s).station i = (s.station i).stepProbe := by
  have stations : (takeStart start late s).stations
      = ((prepareFill start (late.getD 0) (outputStep (s.switched late))).mapStations Station.stepProbe).stations := by
    rw [takeStart_eq, sendSync, handOver_sync_stations]
    rfl
  rw [station_congr stations, station_mapStations]
  exact congrArg Station.stepProbe (station_congr (by simp [(switched_rest s late).2.2.2]) i)

theorem stepProbe_eq (r : Station) :
    r.stepProbe = if r.enabled = true ∧ r.health = .lost ∧ r.probeCountdown ≠ 0 then
      { r with probeCountdown := r.probeCountdown - 1 } else r := by
  unfold Station.stepProbe
  refine if_congr ?_ rfl rfl
  simp [and_assoc]

theorem applySwitch_outTakenFlag (s : State) :
    (applySwitch s).events.outTakenFlag = s.events.outTakenFlag := by
  unfold applySwitch
  split
  · exact notify_outTakenFlag _ _ _ _ _
  · rfl

theorem postLate_outTakenFlag (late : Option Word) (s : State) :
    (postLate late s).events.outTakenFlag = s.events.outTakenFlag := by
  unfold postLate
  cases late with
  | some d => exact notify_outTakenFlag _ _ _ _ _
  | none => rfl

theorem switched_outTakenFlag (s : State) (late : Option Word) :
    (s.switched late).events.outTakenFlag = s.events.outTakenFlag := by
  unfold State.switched
  rw [applySwitch_outTakenFlag, postLate_outTakenFlag, setCycleNumber_eq]

/-- The events of a taken start, after whatever state `u` has the event block and the TIME of the state in
which its output step runs. -/
theorem takeStart_events {s u : State} {late : Option Word} (events : (s.switched late).events = u.events)
    (time : u.tb.time = s.tb.time) (start : Time) :
    (takeStart start late s).events =
      { (if s.images.commitPending = true then
          (if s.images.stale then notify .outputResumed 0xFF s.startCycle 0 u else u)
        else if s.images.freshLimit ≠ 0 ∧ s.images.stale = false
            ∧ satIncByte s.images.freshCount = s.images.freshLimit then
          notify .outputStale 0xFF s.startCycle 0 u
        else u).events with
        cycleFlag := true, outTakenFlag := s.events.outTakenFlag || s.images.commitPending } := by
  obtain ⟨images, tb, -, -⟩ := switched_rest s late
  have noted (c : EventCode) : (notify c 0xFF (s.switched late).sched.cycle 0 (s.switched late)).events
      = (notify c 0xFF s.startCycle 0 u).events := by
    rw [switched_sched]
    exact notify_events_congr events ((congrArg TimeBase.time tb).trans time.symm) _ _ _ _
  have after : (takeStart start late s).events
      = { (outputStep (s.switched late)).events with cycleFlag := true } := by
    simp [takeStart_eq, sendSync]
  rw [after, outputStep_events, switched_outTakenFlag, images]
  (repeat' split) <;> simp only [noted, events]

theorem switched_events {s u : State} {late : Option Word}
    (events : (postLate late (setCycleNumber s)).events = u.events) (time : u.tb.time = s.tb.time) :
    (s.switched late).events = (if s.lists.pendingSwitch then
      notify .listSwitched 0xFF s.startCycle
        (if (if s.lists.pendingSwitch then !s.lists.active else s.lists.active) then 1 else 0) u
      else u).events := by
  unfold State.switched
  rw [applySwitch_events]
  have lists : (postLate late (setCycleNumber s)).lists = s.lists := by simp
  have cycle : (postLate late (setCycleNumber s)).sched.cycle = s.startCycle := by
    simp [setCycleNumber_eq]
  have number : (if s.lists.active then (0 : Word) else 1) = if !s.lists.active then 1 else 0 := by
    cases s.lists.active <;> rfl
  rw [lists, cycle, number]
  cases s.lists.pendingSwitch with
  | true => exact notify_events_congr events (by simpa using time.symm) _ _ _ _
  | false => exact events

theorem takeStart_images (start : Time) (late : Option Word) (s : State) :
    (takeStart start late s).images = { s.images with
      live := if s.images.commitPending then s.images.staged else s.images.live
      staged := if s.images.commitPending then s.images.live else s.images.staged
      commitPending := false
      freshCount := if s.images.commitPending then 0 else satIncByte s.images.freshCount
      inBanks := s.images.inBanks.set s.images.fill
        { s.images.inBanks[s.images.fill] with
          slots := Vector.replicate 32 { cycle := s.startCycle }
          summary :=
            { cycle := s.startCycle, startTime := start, lateness := late.getD 0
              activeList := if s.lists.pendingSwitch then !s.lists.active else s.lists.active } } } := by
  obtain ⟨images, -, -, -⟩ := switched_rest s late
  have after : (takeStart start late s).images
      = (prepareFill start (late.getD 0) (outputStep (s.switched late))).images := by
    simp [takeStart_eq, sendSync]
  have sched : (outputStep (s.switched late)).sched = { s.sched with cycle := s.startCycle } := by
    simp [switched_sched]
  have lists : (outputStep (s.switched late)).lists.active
      = if s.lists.pendingSwitch then !s.lists.active else s.lists.active := by
    simp [switched_lists]
  have banks := outputStep_images (s.switched late)
  rw [images] at banks
  rw [after, prepareFill, State.modifyFill, State.fillBank]
  simp only [sched, lists, banks]

theorem takeStart_line (start : Time) (late : Option Word) (s : State) :
    (takeStart start late s).line = (handOver (.sync s.startCycle) s).line := by
  obtain ⟨-, tb, line, -⟩ := switched_rest s late
  have cycle : (stepProbes (prepareFill start (late.getD 0) (outputStep (s.switched late)))).sched.cycle
      = s.startCycle := by
    simp [switched_sched]
  rw [takeStart_eq, sendSync, cycle]
  refine handOver_sync_line ?_ ?_ _
  · simp [line]
  · simp [tb]

/-- Settles O42: the blocks of `takeStart`, each through the step of the work that touches it. -/
theorem takenStartDoesItsWork : Obligations.TakenStartDoesItsWork := by
  unfold Obligations.TakenStartDoesItsWork
  intro s start late n m count active e1 e2 e3 t
  obtain ⟨images, tb, line, -⟩ := switched_rest s late
  have cycle : s.startCycle = n := rfl
  have fresh : satIncByte m.freshCount = count := satIncByte_eq m.freshCount
  have e1Time : e1.tb.time = s.tb.time := by
    show (match late with
      | some d => notify .lateStart 0xFF n d s
      | none => s).tb.time = _
    cases late <;> simp
  have e2Time : e2.tb.time = s.tb.time := by
    show (if s.lists.pendingSwitch then notify _ _ _ _ e1 else e1).tb.time = _
    split <;> simp [e1Time]
  have e1Events : (postLate late (setCycleNumber s)).events = e1.events := by
    refine (postLate_events (s := s) (by simp) (by simp) late).trans ?_
    rw [setCycleNumber_eq]
    rfl
  have e2Events : (s.switched late).events = e2.events := switched_events e1Events e1Time
  refine ⟨?_, ?_, ?_, ?_, fun i => ?_, takeStart_tb start late s, ?_, ?_, ?_, ?_, ?_⟩
  · show (takeStart start late s).sched = _
    simp [takeStart_eq, sendSync, switched_sched, cycle]
  · show (takeStart start late s).lists = _
    simp [takeStart_eq, sendSync, switched_lists]
    rfl
  · refine (takeStart_events e2Events e2Time start).trans ?_
    rw [cycle]
    show _ = ({ (if m.commitPending = true then (if m.stale then notify _ _ _ _ e2 else e2) else _ : State).events with
      cycleFlag := true, outTakenFlag := _ } : Events)
    rw [← fresh]
  · refine (takeStart_images start late s).trans ?_
    rw [cycle, ← fresh]
  · exact (takeStart_station start late s i).trans (stepProbe_eq _)
  · exact takeStart_line start late s
  · show (takeStart start late s).reqs = _
    simp
  · show (takeStart start late s).port = _
    simp
  · show (takeStart start late s).clear = _
    simp
  · show (takeStart start late s).resetLow = _
    simp

end Sys2Proof.Machine
end

section
/-! R119, R120 and R132: the passing of CLKIN periods, the SYNCOUT pulse, and the reads of TIME. -/

namespace Sys2Proof.Machine

/-! ## The pulse -/

/-- The pulse goes on as it was, or begins. -/
def PulseKept (s t : State) : Prop := t.tb.syncout = s.tb.syncout ∨ t.tb.syncout = some 0

theorem PulseKept.refl (s : State) : PulseKept s s := .inl rfl

theorem PulseKept.of_tb {s t : State} (h : t.tb = s.tb) : PulseKept s t := .inl (congrArg TimeBase.syncout h)

/-- The pulse after a step of a state that has the pulse of `s`. -/
theorem PulseKept.of_same {s t u : State} (h : PulseKept t u) (same : t.tb.syncout = s.tb.syncout) :
    PulseKept s u := by
  unfold PulseKept at *
  rwa [same] at h

theorem pulseKept_takeStart (start : Time) (late : Option Word) (s : State) :
    PulseKept s (takeStart start late s) := by
  right
  rw [takeStart_tb]

theorem pulseKept_answerStart (start : Time) (s : State) : PulseKept s (answerStart start s) := by
  unfold answerStart
  split
  case h_1 =>
    split
    case h_1 => exact pulseKept_takeStart _ _ s
    case h_2 => exact .of_tb (by simp)
    case h_3 => exact .of_tb (by simp)
    case h_4 =>
      unfold answerAcyclic
      split
      · split
        · exact .refl s
        · exact .of_tb (by simp)
      · exact pulseKept_takeStart _ _ s
    case h_5 => exact pulseKept_takeStart _ _ s
    case h_6 => exact .refl s
  all_goals exact .refl s

theorem pulseKept_deliverStart (start next : Time) (s : State) : PulseKept s (deliverStart start next s) :=
  (pulseKept_answerStart start { s with tb.nextStart := some next }).of_same rfl

theorem pulseKept_acceptEdge (s : State) : PulseKept s (acceptEdge s) :=
  (pulseKept_deliverStart _ _ { s with tb.tracker := .locked, tb.missCount := 0 }).of_same rfl

theorem pulseKept_examineEdge (s : State) : PulseKept s (examineEdge s) := by
  unfold examineEdge
  split
  · split
    · exact pulseKept_acceptEdge s
    · exact .refl s
  · exact .refl s

theorem pulseKept_trackEdge (s : State) : PulseKept s (trackEdge s) := by
  unfold trackEdge
  split
  case h_1 => exact (pulseKept_acceptEdge _).of_same (by simp [notifySync])
  case h_2 => exact (pulseKept_acceptEdge _).of_same (by simp [notifySync])
  case h_3 => exact pulseKept_examineEdge s
  case h_4 => exact pulseKept_examineEdge s
  case h_5 => exact .refl s

theorem pulseKept_cycleTimerExpires (s : State) : PulseKept s (cycleTimerExpires s) := by
  unfold cycleTimerExpires
  split
  · exact pulseKept_deliverStart _ _ s
  · exact .refl s

theorem countMiss_syncout (s : State) : (countMiss s).tb.syncout = s.tb.syncout := by
  unfold countMiss notifySync
  (repeat' split) <;> simp

theorem pulseKept_generateStart (s : State) : PulseKept s (generateStart s) := by
  unfold generateStart
  split
  · exact (pulseKept_deliverStart _ _ (countMiss s)).of_same (countMiss_syncout s)
  · exact .refl s

theorem pulseKept_proceed (w : Work) (s : State) : PulseKept s (proceed w s) := by
  unfold proceed
  split
  · exact .of_tb (by simp)
  · exact .of_tb (by simp)
  · unfold afterAttempt
    split
    · exact (pulseKept_takeStart _ _ _).of_same rfl
    · exact .of_tb (by simp)

theorem pulseKept_reportPiece (p : Piece) (rep : Report) (s : State) : PulseKept s (reportPiece p rep s) := by
  unfold reportPiece
  dsimp only
  split
  · left
    simp [drainEnd, engineOff]
  · exact (pulseKept_proceed _ _).of_same (by simp)

theorem lineFault_syncout (c : FaultCause) (s : State) : (lineFault c s).tb.syncout = s.tb.syncout := by
  simp [lineFault, engineOff]

theorem pulseKept_collide (s : State) : PulseKept s (collide s) := by
  unfold collide
  dsimp only
  split
  · exact .inl (lineFault_syncout _ _)
  · exact .of_tb (by simp)

theorem pulseKept_accepted {s t : State} (h : Accepted s t) : PulseKept s t := by
  cases h
  case start =>
    left
    rw [startRun_eq, armTimeBase_tb]
    simp [startPosted]
  case stop =>
    left
    unfold stopRun
    dsimp only
    split <;> rfl
  case softReset =>
    left
    simp [softResetRun, resetLine, engineOff, TimeBase.atSoftReset]
  all_goals exact .of_tb (by simp)

theorem pulseKept_written {s t : State} (h : Written s t) : PulseKept s t := by
  left
  cases h
  case config r w _ =>
    unfold storeConfig takeWord
    (repeat' split) <;> rfl
  all_goals simp [storeSyncMode]

theorem pulseKept_takeCommand (c a : Byte) (s : State) :
    PulseKept s (takeCommand c a (commandBody c a) s) :=
  takeCommand_keeps (P := PulseKept s) (.refl s) (fun _ _ h => h) fun _ _ taken =>
    pulseKept_accepted (accepted_of_ok taken)

theorem pulseKept_writeReg (r : Reg) (w : Word) (s : State) : PulseKept s (writeReg r w s) := by
  by_cases command : r = .command
  · subst command
    exact pulseKept_takeCommand _ _ s
  · exact pulseKept_written (written_of_writeReg command w s)

theorem pulseKept_writeOffset (a : BitVec 6) (w : Word) (s : State) : PulseKept s (writeOffset a w s) := by
  unfold writeOffset
  split
  · exact pulseKept_writeReg _ w s
  · exact .refl s

theorem readOffset_tb (a : BitVec 6) (s : State) : (readOffset a s).2.tb = s.tb := by
  unfold readOffset
  split
  · simp
  · rfl

theorem pulseKept_hostRead {f : State → Word × State} {s : State} (h : (f s).2.tb = s.tb) :
    PulseKept s (hostRead f s) :=
  hostRead_keeps (P := PulseKept s) (.refl s) (fun _ _ k => k) fun _ => .of_tb h

theorem pulseKept_hostWrite {f : State → State} {s : State} (h : PulseKept s (f s)) :
    PulseKept s (hostWrite f s) :=
  hostWrite_keeps (P := PulseKept s) (.refl s) fun _ => h

/-- Only a low RESETn, the clock and the pulse's own end do more to SYNCOUT than begin a pulse (R132). -/
theorem pulseKept_exec {c : Instr} {s t : State} (noReset : c ≠ .resetnLow) (noTick : c ≠ .timeTick)
    (noEnd : c ≠ .syncoutPulseEnd) (h : exec c s = .next t) : PulseKept s t := by
  match command : c.commandBytes with
  | some (code, arg) =>
    rw [exec_command command] at h
    cases h
    exact pulseKept_takeCommand code arg s
  | none =>
    match write : c.writes with
    | some (r, w) =>
      rw [exec_write write] at h
      cases h
      exact pulseKept_hostWrite (pulseKept_writeReg r w s)
    | none =>
      cases c <;> simp only [Instr.commandBytes, Instr.writes, reduceCtorEq, ne_eq, not_true_eq_false]
        at command write noReset noTick noEnd
      all_goals cases h
      case timeLoRead => exact pulseKept_hostRead rfl
      case winDataRead =>
        refine pulseKept_hostRead ?_
        unfold readWindow
        dsimp only
        split <;> rfl
      case registerWrite a w => exact pulseKept_hostWrite (pulseKept_writeOffset a w s)
      case unmappedRegisterRead a => exact pulseKept_hostRead (readOffset_tb a s)
      case syncinEdge e =>
        split
        · exact pulseKept_trackEdge s
        · exact .refl s
      case cycleTimerExpiry =>
        split
        · exact pulseKept_cycleTimerExpires s
        · exact .refl s
      case syncWindowExpiry =>
        split
        · exact pulseKept_generateStart s
        · exact .refl s
      case closingGuardEnd =>
        split
        · exact pulseKept_reportPiece _ _ s
        · exact .refl s
      case busyLimitExpiry =>
        split
        · exact .inl (lineFault_syncout _ s)
        · exact .refl s
      case echoCheck e =>
        split
        · exact .refl s
        · dsimp only
          have tb : (if e.isSome then restartQuiet s else s).tb = s.tb := by split <;> rfl
          generalize (if e.isSome then restartQuiet s else s) = q at tb ⊢
          split
          · exact .of_tb (by simp [tb])
          · exact (pulseKept_collide q).of_same (by rw [tb])
      case startBitMiddleSample level =>
        refine .of_tb ?_
        cases level <;> split <;> simp
      all_goals
        refine .of_tb ?_
        split <;> simp

/-! ## Time -/

/-- Settles O38: the clock, the pulse's end, `pulseKept_exec`, and the accesses to the halves of TIME. -/
theorem timeTickPulseAndTimeReads : Obligations.TimeTickPulseAndTimeReads := by
  unfold Obligations.TimeTickPulseAndTimeReads
  refine ⟨fun s low => ?_, fun s high => ?_, fun s => ⟨fun n running => ?_, fun stopped => ?_⟩,
    fun c s t noReset noTick noEnd h => pulseKept_exec noReset noTick noEnd h, fun s served => ?_⟩
  · exact ⟨congrArg Host.Outcome.next (if_pos low), if_pos low⟩
  · have notLow : ¬ s.resetLow = true := by simp [high]
    refine ⟨congrArg Host.Outcome.next (if_neg notLow), fun last => ?_, fun notLast => ?_⟩
    · exact (if_neg notLow).trans (if_pos last)
    · exact (if_neg notLow).trans (if_neg notLast)
  · have due : s.pulseDue = true ↔ 32 ≤ n := by rw [pulseDue_iff, running]; simp
    refine ⟨fun ended => congrArg Host.Outcome.next (if_pos (due.mpr ended)),
      fun short => congrArg Host.Outcome.next (if_neg ?_), by simp [State.syncoutHigh, running]⟩
    rw [due]
    omega
  · have notDue : ¬ s.pulseDue = true := by rw [pulseDue_iff, stopped]; simp
    exact ⟨congrArg Host.Outcome.next (if_neg notDue), by simp [State.syncoutHigh, stopped]⟩
  · refine ⟨congrArg Host.Outcome.next (hostRead_served served _),
      exec_unmappedRegisterRead_served served rfl, fun w => ⟨?_, ?_⟩⟩
    · exact exec_registerWrite_served served rfl
    · exact exec_registerWrite_served served rfl

end Sys2Proof.Machine
end

section
/-! Chapter 7: the handover and the opening guard, arrivals and their samples, the expiries of the window and
the gap, the end of SETTLE, and the line fault. -/

namespace Sys2Proof.Machine

/-! ## The start of a frame -/

/-- The state in which the header of a frame begins, but for the toggle of a FIRST call's station (R142). -/
def State.sending (s : State) (p : Piece) (frame : List Byte) (toggle : Bool) : State :=
  { s with
    line.engine := .transmit, line.busy := none, line.txIndex := 0, line.txElapsed := 0
    line.piece := some { p with frame := frame, toggleSent := toggle } }

theorem callControl_eq (first stale : Bool) :
    callControl first stale = if first then (if stale then 3 else 2) else (if stale then 1 else 0) := by
  cases first <;> cases stale <;> decide

theorem beginTransmit_eq (p : Piece) (s : State) :
    beginTransmit p s = resetFirstToggle p.work
      (s.sending p (p.work.frame (toggleOfWork p.work s) s.tb.time) (toggleOfWork p.work s)) := rfl

theorem beginTransmit_sync {p : Piece} {n : Word} (work : p.work = .sync n) (s : State) :
    beginTransmit p s = s.sending p (frameBytes (3#2 ++ 0#6) 0
      [n.extractLsb' 0 8, n.extractLsb' 8 8, s.tb.time.extractLsb' 0 8, s.tb.time.extractLsb' 8 8,
        s.tb.time.extractLsb' 16 8, s.tb.time.extractLsb' 24 8]) false := by
  have frame : Work.frame (.sync n) false s.tb.time = frameBytes (3#2 ++ 0#6) 0
      [n.extractLsb' 0 8, n.extractLsb' 8 8, s.tb.time.extractLsb' 0 8, s.tb.time.extractLsb' 8 8,
        s.tb.time.extractLsb' 16 8, s.tb.time.extractLsb' 24 8] := by
    rw [Work.frame, timeBytes_eq_extract]
    rfl
  rw [← frame, beginTransmit_eq, work]
  rfl

theorem beginTransmit_exchange {p : Piece} {i : Slot} {a k : BitVec 6} {first stale : Bool}
    {payload : List Byte} (work : p.work = .exchange i a k first stale payload) (s : State) :
    beginTransmit p s =
      if first then
        (s.sending p (frameBytes (0#2 ++ a) (if stale then 3 else 2) payload) false).setStation i
          { s.station i with toggle := false }
      else s.sending p (frameBytes (0#2 ++ a) (if stale then 1 else 0) payload) false := by
  have frame : Work.frame (.exchange i a k first stale payload) false s.tb.time
      = frameBytes (0#2 ++ a) (callControl first stale) payload := rfl
  rw [beginTransmit_eq, work]
  dsimp only [toggleOfWork]
  rw [frame, callControl_eq]
  cases first <;> rfl

theorem beginTransmit_attempt {p : Piece} {i : Slot} {a : BitVec 6} {service : BitVec 7}
    {payload : List Byte} (work : p.work = .attempt i a service payload) (s : State) :
    beginTransmit p s = s.sending p
      (frameBytes (2#2 ++ a) (BitVec.ofBool (s.station i).toggle ++ service) payload)
      (s.station i).toggle := by
  rw [beginTransmit_eq, work]
  rfl

theorem handOver_quiet {s : State} (quiet : s.line.quietReached s.line.guardTime.toNat = true) (w : Work) :
    handOver w s = beginTransmit { work := w } s :=
  if_pos quiet

theorem handOver_waits {s : State} (busy : ¬ s.line.quietReached s.line.guardTime.toNat = true) (w : Work) :
    handOver w s
      = { s with line.engine := .guard, line.busy := some 0, line.piece := some { work := w } } :=
  if_neg busy

theorem exec_openingGuardEnd_some {s : State} {p : Piece} (piece : s.openingPiece = some p) :
    exec .openingGuardEnd s = .next (beginTransmit p s) := by
  show execOpeningGuardEnd s = _
  rw [execOpeningGuardEnd, piece]

theorem exec_openingGuardEnd_none {s : State} (none : s.openingPiece = .none) :
    exec .openingGuardEnd s = .next s := by
  show execOpeningGuardEnd s = _
  rw [execOpeningGuardEnd, none]

/-- Settles O46: the handover by the quiet line, and the frame by the kind of the work. -/
theorem handoverAndOpeningGuard : Obligations.HandoverAndOpeningGuard := by
  unfold Obligations.HandoverAndOpeningGuard
  intro s quiet sending begins
  have reached : quiet ↔ s.line.quietReached s.line.guardTime.toNat = true := (quietReached_iff _ _).symm
  have begun (p : Piece) : begins p (beginTransmit p s) :=
    ⟨fun n work => beginTransmit_sync work s,
      fun i a k first stale payload work => beginTransmit_exchange work s,
      fun i a service payload work => beginTransmit_attempt work s⟩
  rw [reached]
  refine ⟨fun w quietLine => ?_, fun w busyLine => handOver_waits busyLine w,
    fun p guard piece report quietLine within => ?_, fun waits => ?_⟩
  · rw [handOver_quiet quietLine]
    exact begun _
  · have opening : s.openingPiece = some p := (openingPiece_eq_some_iff s p).mpr
      ⟨guard, quietLine, (busyWithin_iff _).mpr within, piece, report⟩
    exact ⟨_, exec_openingGuardEnd_some opening, begun p⟩
  · refine exec_openingGuardEnd_none (Option.eq_none_iff_forall_ne_some.mpr fun p opening => ?_)
    obtain ⟨guard, quietLine, -⟩ := (openingPiece_eq_some_iff s p).mp opening
    rcases waits with other | busyLine
    · exact other guard
    · exact busyLine quietLine

/-! ## Arrivals -/

theorem listening_iff (s : State) : s.listening = true ↔ s.line.engine ≠ .off ∧ s.line.rx = none := by
  simp [State.listening]

theorem exec_rxdCharacterArrival (s : State) :
    exec .rxdCharacterArrival s = .next (if s.listening then takeArrival (expireOverdue s) else s) := rfl

/-- A response window that is past its time (R11). -/
def State.WindowPast (s : State) : Prop :=
  s.line.engine = .awaitReply ∧ ∃ w, s.line.window = some w ∧ s.line.clocks s.line.respWin.toNat < w

/-- A gap that is past its time (R12). -/
def State.GapPast (s : State) : Prop :=
  s.line.engine = .receive ∧ ∃ g, s.line.gap = some g ∧ s.line.clocks s.line.charGap.toNat < g

theorem expireOverdue_window {s : State} (past : s.WindowPast) : expireOverdue s = windowExpires s := by
  obtain ⟨await, w, window, beyond⟩ := past
  unfold expireOverdue
  rw [await]
  simp only [window, if_pos beyond]

theorem expireOverdue_gap {s : State} (past : s.GapPast) : expireOverdue s = gapExpires s := by
  obtain ⟨receive, g, gap, beyond⟩ := past
  unfold expireOverdue
  rw [receive]
  simp only [gap, if_pos beyond]

theorem expireOverdue_none {s : State} (window : ¬ s.WindowPast) (gap : ¬ s.GapPast) : expireOverdue s = s := by
  unfold expireOverdue
  split
  case h_1 await =>
    split
    · rename_i w running
      exact if_neg fun beyond => window ⟨await, w, running, beyond⟩
    · rfl
  case h_2 receive =>
    split
    · rename_i g running
      exact if_neg fun beyond => gap ⟨receive, g, running, beyond⟩
    · rfl
  all_goals rfl

theorem takeArrival_await {s : State} (await : s.line.engine = .awaitReply) :
    takeArrival s = { s with
      line.engine := .receive, line.quiet := some 0, line.headerTime := s.tb.time, line.rxBuf := []
      line.rx := some
        { elapsed := 0, quietBefore := s.line.quiet, sampled := false, asHeader := true, asEcho := false } } := by
  unfold takeArrival
  simp [await]

theorem takeArrival_other {s : State} (other : s.line.engine ≠ .awaitReply) :
    takeArrival s = { s with
      line.quiet := some 0
      line.rx := some
        { elapsed := 0, quietBefore := s.line.quiet, sampled := false, asHeader := false
          asEcho := s.line.engine == .transmit } } := by
  unfold takeArrival
  simp [other]

theorem exec_rxdCharacterArrival_listening {s : State} (on : s.line.engine ≠ .off) (rx : s.line.rx = none) :
    exec .rxdCharacterArrival s = .next (takeArrival (expireOverdue s)) := by
  rw [exec_rxdCharacterArrival, if_pos ((listening_iff s).mpr ⟨on, rx⟩)]

/-- After an expiry the engine is in its closing guard or in SETTLE, where nothing is overdue: the arrival that
follows does what it does with the expiry taken first. -/
theorem exec_rxdCharacterArrival_after {s t : State} (on : s.line.engine ≠ .off) (rx : s.line.rx = none)
    (overdue : expireOverdue s = t) (next : t.line.engine = .guard ∨ t.line.engine = .settle)
    (rxAfter : t.line.rx = none) :
    exec .rxdCharacterArrival s = exec .rxdCharacterArrival t := by
  have onAfter : t.line.engine ≠ .off := by rcases next with e | e <;> simp [e]
  have settled : expireOverdue t = t := by
    refine expireOverdue_none (fun past => ?_) (fun past => ?_)
    · rcases next with e | e <;> simp [past.1] at e
    · rcases next with e | e <;> simp [past.1] at e
  rw [exec_rxdCharacterArrival_listening on rx, exec_rxdCharacterArrival_listening onAfter rxAfter, overdue,
    settled]

theorem exec_responseWindowExpiry (s : State) :
    exec .responseWindowExpiry s = .next (if s.windowDue then windowExpires s else s) := rfl

theorem exec_charGapExpiry (s : State) :
    exec .charGapExpiry s = .next (if s.gapDue then gapExpires s else s) := rfl

theorem exec_startBitMiddleSample (level : Bool) (s : State) :
    exec (.startBitMiddleSample level) s = execStartBitMiddleSample level s := rfl

theorem toSample_eq_some_iff (s : State) (c : RxChar) :
    s.toSample = some c ↔ s.line.rx = some c ∧ c.sampled = false ∧ s.line.clocks 1 ≤ 2 * c.elapsed := by
  unfold State.toSample
  rw [Option.filter_eq_some_iff]
  simp

theorem discardArrival_engine (c : RxChar) (s : State) :
    (discardArrival c s).line.engine
      = if c.asHeader = true ∧ s.line.engine = .receive then .awaitReply else s.line.engine := by
  simp only [discardArrival, Bool.and_eq_true, beq_iff_eq]

/-- Settles O47: the arrival by the engine and the overdue timers, the sample by its level. -/
theorem arrivalAndStartBitSample : Obligations.ArrivalAndStartBitSample := by
  unfold Obligations.ArrivalAndStartBitSample
  intro s windowPast gapPast begun
  refine ⟨fun deaf => ?_, fun rx noWindow noGap => ⟨fun await => ?_, fun other on => ?_⟩,
    fun rx past => ?_, fun rx past => ?_, fun c rx fresh middle => ⟨?_, ?_⟩, fun b nothing => ?_⟩
  · rw [exec_rxdCharacterArrival, if_neg]
    rw [listening_iff]
    rintro ⟨on, rx⟩
    rcases deaf with off | inside
    · exact on off
    · simp [rx] at inside
  · rw [exec_rxdCharacterArrival_listening (by simp [await]) rx, expireOverdue_none noWindow noGap,
      takeArrival_await await]
  · rw [exec_rxdCharacterArrival_listening on rx, expireOverdue_none noWindow noGap, takeArrival_other other]
  · obtain ⟨await, w, window, beyond⟩ := past
    have due : s.windowDue = true := (windowDue_iff s).mpr ⟨await, w, window, beyond.le⟩
    refine ⟨windowExpires s, by rw [exec_responseWindowExpiry, if_pos due], ?_⟩
    refine exec_rxdCharacterArrival_after (by simp [await]) rx
      (expireOverdue_window ⟨await, w, window, beyond⟩) (.inl rfl) ?_
    show s.line.rx.map _ = none
    rw [rx]
    rfl
  · obtain ⟨receive, g, gap, beyond⟩ := past
    have due : s.gapDue = true := (gapDue_iff s).mpr ⟨receive, rx, g, gap, beyond.le⟩
    refine ⟨gapExpires s, by rw [exec_charGapExpiry, if_pos due], ?_⟩
    refine exec_rxdCharacterArrival_after (by simp [receive]) rx
      (expireOverdue_gap ⟨receive, g, gap, beyond⟩) (.inr rfl) ?_
    show s.line.rx.map _ = none
    rw [rx]
    rfl
  · have sample := (toSample_eq_some_iff s c).mpr ⟨rx, fresh, middle⟩
    rw [exec_startBitMiddleSample, execStartBitMiddleSample, sample]
    rfl
  · have sample := (toSample_eq_some_iff s c).mpr ⟨rx, fresh, middle⟩
    rw [exec_startBitMiddleSample, execStartBitMiddleSample, sample]
    exact congrArg (fun e => Host.Outcome.next { discardArrival c s with line.engine := e })
      (discardArrival_engine c s)
  · have none : s.toSample = .none := by
      refine Option.eq_none_iff_forall_ne_some.mpr fun c sample => ?_
      obtain ⟨rx, fresh, middle⟩ := (toSample_eq_some_iff s c).mp sample
      rcases nothing with empty | ⟨x, rx', sampled | early⟩
      · simp [rx] at empty
      · rw [rx] at rx'
        cases rx'
        simp [fresh] at sampled
      · rw [rx] at rx'
        cases rx'
        omega
    rw [exec_startBitMiddleSample, execStartBitMiddleSample, none]

end Sys2Proof.Machine
end

section
/-! Chapter 7: a character completes, and a complete reply is classified. -/

namespace Sys2Proof.Machine

/-! ## Characters complete -/

theorem toComplete_eq_some_iff (s : State) (r : RxChar) :
    s.toComplete = some r ↔ s.line.rx = some r ∧ s.line.clocks 11 ≤ r.elapsed := by
  unfold State.toComplete
  rw [Option.filter_eq_some_iff]
  simp

theorem exec_characterCompletion_early {s : State} {r : RxChar} (c : LineChar) (rx : s.line.rx = some r)
    (early : r.elapsed < s.line.clocks 11) : exec (.characterCompletion c) s = .next s := by
  have none : s.toComplete = .none := by
    refine Option.eq_none_iff_forall_ne_some.mpr fun x complete => ?_
    obtain ⟨rx', through⟩ := (toComplete_eq_some_iff s x).mp complete
    obtain rfl : r = x := Option.some.inj (rx.symm.trans rx')
    omega
  show execCharacterCompletion c s = _
  rw [execCharacterCompletion, none]

theorem exec_characterCompletion {s : State} {r : RxChar} (c : LineChar) (rx : s.line.rx = some r)
    (through : s.line.clocks 11 ≤ r.elapsed) :
    exec (.characterCompletion c) s
      = .next (characterEnds r c { s with line.rx := none, line.quiet := some 0 }) := by
  have complete := (toComplete_eq_some_iff s r).mpr ⟨rx, through⟩
  show execCharacterCompletion c s = _
  rw [execCharacterCompletion, complete]

theorem characterEnds_reply {r : RxChar} {s : State} (c : LineChar) (own : r.asEcho = false)
    (receive : s.line.engine = .receive) : characterEnds r c s = receiveCharacter c s := by
  simp [characterEnds, own, receive]

theorem characterEnds_noise {r : RxChar} {s : State} (c : LineChar) (own : r.asEcho = false)
    (noise : s.line.engine = .idle ∨ s.line.engine = .guard) :
    characterEnds r c s = countLine .noiseChars s := by
  rcases noise with e | e <;> simp [characterEnds, own, e]

theorem characterEnds_dropped {r : RxChar} {s : State} (c : LineChar)
    (dropped : s.line.engine = .settle ∨ s.line.engine = .transmit ∨ s.line.engine = .awaitReply
      ∨ r.asEcho = true) :
    characterEnds r c s = s := by
  rcases dropped with e | e | e | e <;> simp [characterEnds, e]

theorem receiveCharacter_fault {s : State} {c : LineChar} {e : RxError}
    (fault : characterFault s.line.rxBuf c = some e) : receiveCharacter c s = endReplyInError e s := by
  rw [receiveCharacter, fault]

theorem receiveCharacter_complete {s : State} {c : LineChar} (sound : characterFault s.line.rxBuf c = none)
    (last : 3 ≤ (s.line.rxBuf ++ [c.data]).length
      ∧ (s.line.rxBuf ++ [c.data]).length = replyNeeds (s.line.rxBuf ++ [c.data])) :
    receiveCharacter c s = completeReply (s.line.rxBuf ++ [c.data]) s := by
  rw [receiveCharacter, sound]
  exact if_pos last

theorem receiveCharacter_kept {s : State} {c : LineChar} (sound : characterFault s.line.rxBuf c = none)
    (more : ¬ (3 ≤ (s.line.rxBuf ++ [c.data]).length
      ∧ (s.line.rxBuf ++ [c.data]).length = replyNeeds (s.line.rxBuf ++ [c.data]))) :
    receiveCharacter c s
      = { s with line.rxBuf := s.line.rxBuf ++ [c.data], line.gap := some 0, line.window := none } := by
  rw [receiveCharacter, sound]
  exact if_neg more

theorem mark_ne_isEmpty_iff (buf : List Byte) (c : LineChar) :
    (c.mark != buf.isEmpty) = true ↔ ¬ (c.mark = true ↔ buf.length = 0) := by
  cases buf <;> cases c.mark <;> simp

theorem characterFault_stop (buf : List Byte) {c : LineChar} (low : c.stop = false) :
    characterFault buf c = some .format := by
  simp [characterFault, low]

theorem characterFault_mark {buf : List Byte} {c : LineChar} (stop : c.stop = true)
    (marked : ¬ (c.mark = true ↔ buf.length = 0)) : characterFault buf c = some .mark := by
  rw [characterFault, stop, if_neg (by simp), if_pos ((mark_ne_isEmpty_iff _ _).mpr marked)]

theorem characterFault_length {buf : List Byte} {c : LineChar} (stop : c.stop = true)
    (marked : c.mark = true ↔ buf.length = 0) (long : buf.length = 2 ∧ 120 < c.data.toNat) :
    characterFault buf c = some .length := by
  rw [characterFault, stop, if_neg (by simp),
    if_neg fun bad => (mark_ne_isEmpty_iff _ _).mp bad marked, if_pos long]

theorem characterFault_none {buf : List Byte} {c : LineChar} (stop : c.stop = true)
    (marked : c.mark = true ↔ buf.length = 0) (short : ¬ (buf.length = 2 ∧ 120 < c.data.toNat)) :
    characterFault buf c = none := by
  rw [characterFault, stop, if_neg (by simp),
    if_neg fun bad => (mark_ne_isEmpty_iff _ _).mp bad marked, if_neg short]

/-- Settles O48: each completed character by the engine's state, and in RECEIVE by the checks in their
order. -/
theorem charactersComplete : Obligations.CharactersComplete := by
  unfold Obligations.CharactersComplete
  intro s r c rx t ends n markOk lengthOk
  have step (through : s.line.clocks 11 ≤ r.elapsed) :
      exec (.characterCompletion c) s = .next (characterEnds r c t) := exec_characterCompletion c rx through
  refine ⟨exec_characterCompletion_early c rx, fun through => ⟨fun noise own => ?_, fun dropped => ?_,
    fun receive own => ?_⟩⟩
  · rw [step through, characterEnds_noise (s := t) c own noise]
  · rw [step through, characterEnds_dropped (s := t) c dropped]
  · rw [step through, characterEnds_reply (s := t) c own receive]
    refine ⟨fun stop => ?_, fun stop bad => ?_, fun stop marked bad => ?_,
      fun stop marked short more => ?_⟩
    · rw [receiveCharacter_fault (s := t) (characterFault_stop _ stop)]
      rfl
    · rw [receiveCharacter_fault (s := t) (characterFault_mark stop bad)]
      rfl
    · rw [receiveCharacter_fault (s := t) (characterFault_length stop marked (not_not.mp bad))]
      rfl
    · rw [receiveCharacter_kept (s := t) (characterFault_none stop marked short)]
      rintro ⟨three, last⟩
      rw [List.length_append, List.length_singleton] at three last
      rcases more with few | other
      · have few : t.line.rxBuf.length < 2 := few
        omega
      · exact other last

/-! ## A complete reply -/

theorem judge_some {s : State} {p : Piece} (r : Report) (piece : s.line.piece = some p) :
    judge r s = { s with line.piece := some { p with report := some r } } := by
  rw [judge, piece]
  rfl

theorem take_reply (body : List Byte) (lo hi : Byte) :
    (body ++ [lo, hi]).take ((body ++ [lo, hi]).length - 2) = body := by
  simp

theorem getD_reply_lo (body : List Byte) (lo hi : Byte) :
    (body ++ [lo, hi]).getD ((body ++ [lo, hi]).length - 2) 0 = lo := by
  simp

theorem getD_reply_hi (body : List Byte) (lo hi : Byte) :
    (body ++ [lo, hi]).getD ((body ++ [lo, hi]).length - 1) 0 = hi := by
  simp

section Classified
variable {p : Piece} {header control len lo hi : Byte} {payload : List Byte}

theorem classifyReply_check (bad : ¬ crc16 (header :: control :: len :: payload) = hi ++ lo) :
    classifyReply p (header :: control :: len :: payload ++ [lo, hi]) = .error .check := by
  unfold classifyReply
  simp only [take_reply, getD_reply_lo, getD_reply_hi]
  exact if_pos bad

theorem classifyReply_responder (check : crc16 (header :: control :: len :: payload) = hi ++ lo)
    (other : ¬ (header.extractLsb' 6 2 = 1 ∧ header.extractLsb' 0 6 = p.work.address)) :
    classifyReply p (header :: control :: len :: payload ++ [lo, hi]) = .error .responder := by
  unfold classifyReply
  simp only [take_reply, getD_reply_lo, getD_reply_hi]
  have passed : ¬ crc16 (header :: control :: len :: payload) ≠ wordOf lo hi := not_not.mpr check
  exact (if_neg passed).trans (if_pos (not_and_or.mp other))

theorem classifyReply_exchange {i : Slot} {a inLen : BitVec 6} {first stale : Bool} {sent : List Byte}
    (work : p.work = .exchange i a inLen first stale sent)
    (check : crc16 (header :: control :: len :: payload) = hi ++ lo)
    (own : header.extractLsb' 6 2 = 1 ∧ header.extractLsb' 0 6 = a) :
    classifyReply p (header :: control :: len :: payload ++ [lo, hi])
      = if pairingOk inLen len (replyFlags control) then .good len (replyFlags control) payload
        else .error .length := by
  have passed : ¬ crc16 (header :: control :: len :: payload) ≠ wordOf lo hi := not_not.mpr check
  have answered : ¬ (headerKind header ≠ FrameKind.reply.code ∨ headerAddress header ≠ p.work.address) := by
    rw [work]
    exact fun other => not_and_or.mpr other own
  unfold classifyReply
  simp only [take_reply, getD_reply_lo, getD_reply_hi]
  refine (if_neg passed).trans ((if_neg answered).trans ?_)
  rw [work]
  rfl

theorem classifyReply_attempt {i : Slot} {a : BitVec 6} {service : BitVec 7} {sent : List Byte}
    (work : p.work = .attempt i a service sent)
    (check : crc16 (header :: control :: len :: payload) = hi ++ lo)
    (own : header.extractLsb' 6 2 = 1 ∧ header.extractLsb' 0 6 = a) :
    classifyReply p (header :: control :: len :: payload ++ [lo, hi])
      = if flagEcho (replyFlags control) = p.toggleSent then .good len (replyFlags control) payload
        else .error .sequence := by
  have passed : ¬ crc16 (header :: control :: len :: payload) ≠ wordOf lo hi := not_not.mpr check
  have answered : ¬ (headerKind header ≠ FrameKind.reply.code ∨ headerAddress header ≠ p.work.address) := by
    rw [work]
    exact fun other => not_and_or.mpr other own
  unfold classifyReply
  simp only [take_reply, getD_reply_lo, getD_reply_hi]
  refine (if_neg passed).trans ((if_neg answered).trans ?_)
  rw [work]
  rfl

end Classified

theorem flagReady_replyFlags (control : Byte) : flagReady (replyFlags control) = control.getLsbD 1 := by
  simp [flagReady, replyFlags]

theorem flagEcho_replyFlags (control : Byte) : flagEcho (replyFlags control) = control.getLsbD 0 := by
  simp [flagEcho, replyFlags]

theorem pairingOk_iff (inLen : BitVec 6) (len : Byte) (control : Byte) :
    pairingOk inLen len (replyFlags control) = true ↔
      (control.getLsbD 1 = true ∧ len.toNat = inLen.toNat) ∨ (control.getLsbD 1 = false ∧ len = 0) := by
  rw [pairingOk, flagReady_replyFlags]
  cases control.getLsbD 1 <;> simp

theorem completeReply_error {buf : List Byte} {s : State} {p : Piece} {e : RxError}
    (piece : s.line.piece = some p) (error : classifyReply p buf = .error e) :
    completeReply buf s = endReplyInError e s := by
  unfold completeReply
  simp only [piece, error]

theorem completeReply_good {buf : List Byte} {s : State} {p : Piece} {len : Byte} {flags : BitVec 4}
    {payload : List Byte} (piece : s.line.piece = some p)
    (good : classifyReply p buf = .good len flags payload) :
    completeReply buf s
      = enterClosingGuard ⟨.good len flags payload, s.line.headerTime⟩ (countLine .repliesGood s) := by
  unfold completeReply
  simp only [piece, good]

/-- Settles O49: the last character of a reply ends it in its class. -/
theorem completeRepliesAreClassified : Obligations.CompleteRepliesAreClassified := by
  unfold Obligations.CompleteRepliesAreClassified
  intro s r p header control len lo hi payload rx through own receive piece kept length step ends good
    checkOk from_
  let t : State := { s with line.rx := none, line.quiet := some 0 }
  let reply := header :: control :: len :: payload ++ [lo, hi]
  have buf : s.line.rxBuf ++ [hi] = reply := by simp [reply, kept]
  have count : s.line.rxBuf.length = payload.length + 4 := by simp [kept]
  have completes : step = .next (completeReply reply t) := by
    have sound : characterFault t.line.rxBuf { data := hi, mark := false, stop := true } = none :=
      characterFault_none rfl (by show false = true ↔ s.line.rxBuf.length = 0; simp [count])
        (by show ¬ (s.line.rxBuf.length = 2 ∧ _); omega)
    have last : 3 ≤ (t.line.rxBuf ++ [hi]).length
        ∧ (t.line.rxBuf ++ [hi]).length = replyNeeds (t.line.rxBuf ++ [hi]) := by
      show 3 ≤ (s.line.rxBuf ++ [hi]).length ∧ (s.line.rxBuf ++ [hi]).length = replyNeeds (s.line.rxBuf ++ [hi])
      rw [buf]
      simp [reply, replyNeeds, length]
    rw [← buf]
    calc step = .next (characterEnds r _ t) := exec_characterCompletion _ rx through
      _ = .next (receiveCharacter _ t) := by rw [characterEnds_reply (s := t) _ own receive]
      _ = .next (completeReply _ t) := by rw [receiveCharacter_complete (s := t) sound last]
  have inError (e : RxError) (error : classifyReply p reply = .error e) :
      step = ends e.counter .settle (.error e) := by
    rw [completes, completeReply_error (s := t) piece error]
    exact congrArg Host.Outcome.next (judge_some (p := p) _ piece)
  have inGood (isGood : classifyReply p reply = .good len (replyFlags control) payload) : step = good := by
    rw [completes, completeReply_good (s := t) piece isGood]
    exact congrArg Host.Outcome.next (judge_some (p := p) _ piece)
  refine ⟨fun bad => inError .check (classifyReply_check bad),
    fun i a inLen first stale sent work check => ⟨fun other => ?_, fun mine odd => ?_, fun mine pair => ?_⟩,
    fun i a service sent work check => ⟨fun other => ?_, fun mine odd => ?_, fun mine echo => ?_⟩⟩
  · refine inError .responder (classifyReply_responder check ?_)
    rw [work]
    exact other
  · refine inError .length ?_
    rw [classifyReply_exchange work check mine, if_neg fun ok => odd ((pairingOk_iff _ _ _).mp ok)]
  · refine inGood ?_
    rw [classifyReply_exchange work check mine, if_pos ((pairingOk_iff _ _ _).mpr pair)]
  · refine inError .responder (classifyReply_responder check ?_)
    rw [work]
    exact other
  · refine inError .sequence ?_
    rw [classifyReply_attempt work check mine, flagEcho_replyFlags, if_neg odd]
  · refine inGood ?_
    rw [classifyReply_attempt work check mine, flagEcho_replyFlags, if_pos echo]

end Sys2Proof.Machine
end

section
/-! Chapter 7: the echo check, and the ends of the window, the gap and SETTLE. -/

namespace Sys2Proof.Machine

/-! ## DE and TXD -/

theorem de_eq_true_iff (s : State) : s.de = true ↔ s.line.engine = .transmit := by simp [State.de]

theorem txd_transmit {s : State} {p : Piece} (transmit : s.line.engine = .transmit)
    (piece : s.line.piece = some p) :
    s.txd = if s.line.txElapsed / s.line.clocks 1 / 11 = s.line.txIndex then
      (charBits (p.frame.getD s.line.txIndex 0) (s.line.txIndex == 0)).getD
        (s.line.txElapsed / s.line.clocks 1 % 11) true
      else true := by
  unfold State.txd
  rw [transmit, piece]
  rfl

theorem txd_idle {s : State} (other : s.line.engine ≠ .transmit) : s.txd = true := by
  unfold State.txd
  split
  case h_1 transmit _ => exact absurd transmit other
  case h_2 => rfl

theorem getD_charBits (data : Byte) (mark : Bool) {b : Nat} (bound : b < 11) :
    (charBits data mark).getD b true
      = if b = 0 then false else if b ≤ 8 then data.getLsbD (b - 1) else if b = 9 then mark else true := by
  interval_cases b <;> rfl

/-! ## The echo check -/

theorem sentPiece_eq_some_iff (s : State) (p : Piece) :
    s.sentPiece = some p ↔ s.line.engine = .transmit
      ∧ s.line.clocks (11 * (s.line.txIndex + 1)) ≤ s.line.txElapsed ∧ s.line.piece = some p := by
  unfold State.sentPiece
  split
  case isTrue due => simp [due]
  case isFalse early => simpa using fun transmit through => absurd ⟨transmit, through⟩ early

theorem exec_echoCheck_early {s : State} (e : Option Echo)
    (early : s.line.txElapsed < s.line.clocks (11 * (s.line.txIndex + 1))) :
    exec (.echoCheck e) s = .next s := by
  have none : s.sentPiece = .none := by
    refine Option.eq_none_iff_forall_ne_some.mpr fun p sent => ?_
    obtain ⟨-, through, -⟩ := (sentPiece_eq_some_iff s p).mp sent
    omega
  show execEchoCheck e s = _
  rw [execEchoCheck, none]

theorem echoMatches_iff (l : LineEngine) (sent : LineChar) (e : Option Echo) :
    echoMatches l sent e = true ↔ ∃ x, e = some x ∧ 2 * x.delay ≤ l.clocks 1 ∧ x.char = sent := by
  unfold echoMatches
  cases e <;> simp

theorem exec_echoCheck_equal {s : State} {p : Piece} {e : Option Echo} (sent : s.sentPiece = some p)
    (equal : ∃ x, e = some x ∧ 2 * x.delay ≤ s.line.clocks 1 ∧ x.char = frameChar p.frame s.line.txIndex) :
    exec (.echoCheck e) s = .next (characterSent p (if e.isSome then restartQuiet s else s)) := by
  show execEchoCheck e s = _
  rw [execEchoCheck, sent]
  exact congrArg Host.Outcome.next (if_pos ((echoMatches_iff _ _ _).mpr equal))

theorem exec_echoCheck_unequal {s : State} {p : Piece} {e : Option Echo} (sent : s.sentPiece = some p)
    (differs : ¬ ∃ x, e = some x ∧ 2 * x.delay ≤ s.line.clocks 1 ∧ x.char = frameChar p.frame s.line.txIndex) :
    exec (.echoCheck e) s = .next (collide (if e.isSome then restartQuiet s else s)) := by
  show execEchoCheck e s = _
  rw [execEchoCheck, sent]
  exact congrArg Host.Outcome.next (if_neg fun same => differs ((echoMatches_iff _ _ _).mp same))

/-- A receiver that is inside a character forgets how long the line had been quiet before it. -/
def RxChar.forgetQuiet (c : RxChar) : RxChar := { c with quietBefore := none }

theorem map_forgetQuiet_twice (rx : Option RxChar) :
    (rx.map RxChar.forgetQuiet).map RxChar.forgetQuiet = rx.map RxChar.forgetQuiet := by
  cases rx <;> rfl

theorem enterClosingGuard_eq {s : State} {p : Piece} {rx : Option RxChar} (r : Report)
    (piece : s.line.piece = some p) (forgotten : s.line.rx.map RxChar.forgetQuiet = rx) :
    enterClosingGuard r s = { s with
      line.engine := .guard, line.quiet := some 0, line.rx := rx, line.busy := some 0, line.window := none
      line.gap := none, line.rxBuf := [], line.piece := some { p with report := some r } } := by
  subst forgotten
  exact judge_some r piece

theorem enterSettle_eq {s : State} {p : Piece} {rx : Option RxChar} (r : Report)
    (piece : s.line.piece = some p) (forgotten : s.line.rx.map RxChar.forgetQuiet = rx) :
    enterSettle r s = { s with
      line.engine := .settle, line.quiet := some 0, line.rx := rx, line.busy := some 0, line.window := none
      line.gap := none, line.rxBuf := [], line.piece := some { p with report := some r } } := by
  subst forgotten
  exact judge_some r piece

theorem characterSent_more {p : Piece} {s : State} (more : s.line.txIndex + 1 < p.frame.length) :
    characterSent p s = { s with line.txIndex := s.line.txIndex + 1 } :=
  if_neg (Nat.not_le.mpr more)

theorem characterSent_sync {p : Piece} {s : State} (last : p.frame.length ≤ s.line.txIndex + 1)
    (sync : p.work.isSync = true) :
    characterSent p s
      = enterClosingGuard ⟨.sent, s.tb.time⟩ (countLine .framesSent { s with line.collisionRun := 0 }) :=
  (if_pos last).trans (if_pos sync)

theorem characterSent_other {p : Piece} {s : State} (last : p.frame.length ≤ s.line.txIndex + 1)
    (other : p.work.isSync = false) :
    characterSent p s = { countLine .framesSent s with
      line.collisionRun := 0, line.engine := .awaitReply, line.window := some 0, line.rxBuf := [] } :=
  (if_pos last).trans (if_neg (by simp [other]))

theorem collide_settles {s : State} (few : s.line.collisionRun < 2) :
    collide s = enterSettle ⟨.collision, s.tb.time⟩
      (countLine .collisions { s with line.collisionRun := s.line.collisionRun + 1 }) :=
  if_neg (by show ¬ 3 ≤ s.line.collisionRun + 1; omega)

theorem collide_faults {s : State} (third : 2 ≤ s.line.collisionRun) :
    collide s = lineFault .collision
      (countLine .collisions { s with line.collisionRun := s.line.collisionRun + 1 }) :=
  if_pos (by show 3 ≤ s.line.collisionRun + 1; omega)

/-- Settles O50: TXD bit by bit, and the echo check by its verdict. -/
theorem echoCheckJudgesEveryCharacter : Obligations.EchoCheckJudgesEveryCharacter := by
  unfold Obligations.EchoCheckJudgesEveryCharacter
  refine ⟨fun s p e transmit piece => ?_, fun s other => ⟨by simp [State.de, other], txd_idle other⟩⟩
  intro k sent bit equal restarted t reported out
  refine ⟨⟨(de_eq_true_iff s).mpr transmit, fun b bound at_ => ?_, fun done => ?_⟩,
    exec_echoCheck_early e, fun through => ?_⟩
  · rw [txd_transmit transmit piece, if_pos (by omega), ← getD_charBits _ _ bound]
    congr 1
    omega
  · rw [txd_transmit transmit piece, if_neg (by omega)]
  · have sentPiece : s.sentPiece = some p := (sentPiece_eq_some_iff s p).mpr ⟨transmit, through, piece⟩
    have matched (same : equal) : out = .next (characterSent p t) := exec_echoCheck_equal sentPiece same
    have unmatched (differs : ¬ equal) : out = .next (collide t) := exec_echoCheck_unequal sentPiece differs
    have pieceKept : t.line.piece = some p := by cases e <;> exact piece
    have runKept : t.line.collisionRun = s.line.collisionRun := by cases e <;> rfl
    have indexKept : t.line.txIndex = k := by cases e <;> rfl
    have timeKept : t.tb.time = s.tb.time := by cases e <;> rfl
    have forgotten : t.line.rx.map RxChar.forgetQuiet = restarted := by
      cases e
      · rfl
      · exact map_forgetQuiet_twice _
    refine ⟨fun same more => ?_, fun same last sync => ?_, fun same last other => ?_,
      fun differs few => ?_, fun differs third => ?_⟩
    · rw [matched same, characterSent_more (by rw [indexKept]; exact more), indexKept]
    · have rxKept : t.line.rx = restarted := by
        obtain ⟨x, rfl, -⟩ := same
        rfl
      rw [matched same, characterSent_sync (by rw [indexKept]; exact last) sync, timeKept]
      refine congrArg Host.Outcome.next (enterClosingGuard_eq (p := p) (rx := t.line.rx) _ ?_ ?_)
      · exact pieceKept
      · exact forgotten.trans rxKept.symm
    · rw [matched same, characterSent_other (by rw [indexKept]; exact last) other]
    · rw [unmatched differs, collide_settles (by rw [runKept]; exact few), timeKept, runKept]
      refine congrArg Host.Outcome.next (enterSettle_eq (p := p) (rx := restarted) _ ?_ ?_)
      · exact pieceKept
      · exact forgotten
    · rw [unmatched differs, collide_faults (by rw [runKept]; exact third), runKept]
      rfl

/-! ## The ends of the window, the gap and SETTLE -/

theorem exec_settleEnd (s : State) :
    exec .settleEnd s = .next (if s.settleDue then settleEnds s else s) := rfl

theorem settleEnds_eq {s : State} (rx : s.line.rx = none) :
    settleEnds s = { s with line.engine := .guard, line.quiet := some 0 } := by
  have kept : s.line.rx.map RxChar.forgetQuiet = s.line.rx := by rw [rx]; rfl
  show ({ s with line.engine := .guard, line.quiet := some 0
                 line.rx := s.line.rx.map RxChar.forgetQuiet } : State) = _
  rw [kept]

theorem windowExpires_eq {s : State} {w : Nat} (window : s.line.window = some w) :
    let d := w - s.line.clocks s.line.respWin.toNat
    windowExpires s = { countLine .timeouts s with
      line.engine := .guard, line.quiet := some (min d (s.line.quiet.getD d))
      line.rx := s.line.rx.map RxChar.forgetQuiet
      line.busy := some d, line.window := none, line.gap := none, line.rxBuf := []
      line.piece := s.line.piece.map fun p => { p with report := some ⟨.timeout, s.tb.ago d⟩ } } := by
  intro d
  have past : s.line.pastBy s.line.window s.line.respWin.toNat = d := by
    rw [LineEngine.pastBy, window]
    rfl
  unfold windowExpires
  rw [past]
  rfl

theorem gapExpires_eq {s : State} {g : Nat} (rx : s.line.rx = none) (gap : s.line.gap = some g) :
    let d := g - s.line.clocks s.line.charGap.toNat
    gapExpires s = { countLine .gapErrors s with
      line.engine := .settle, line.quiet := some (min d (s.line.quiet.getD d)), line.busy := some d
      line.window := none, line.gap := none, line.rxBuf := []
      line.piece := s.line.piece.map fun p =>
        { p with report := some ⟨.error .gap, s.line.headerTime⟩ } } := by
  intro d
  have past : s.line.pastBy s.line.gap s.line.charGap.toNat = d := by
    rw [LineEngine.pastBy, gap]
    rfl
  have kept : s.line.rx.map RxChar.forgetQuiet = s.line.rx := by rw [rx]; rfl
  unfold gapExpires
  rw [past]
  show ({ countLine .gapErrors s with
    line.engine := .settle, line.quiet := some (min d (s.line.quiet.getD d)), line.busy := some d
    line.rx := s.line.rx.map RxChar.forgetQuiet
    line.window := none, line.gap := none, line.rxBuf := []
    line.piece := s.line.piece.map fun p =>
      { p with report := some ⟨.error .gap, s.line.headerTime⟩ } } : State) = _
  rw [kept]
  rfl

/-- Settles O51: the expiries and the end of SETTLE, by their timers. -/
theorem windowGapAndSettleEnds : Obligations.WindowGapAndSettleEnds := by
  unfold Obligations.WindowGapAndSettleEnds
  intro s judged ago quietSince quiet
  have reached : quiet ↔ s.line.quietReached (s.line.charGap.toNat + 11) = true :=
    (quietReached_iff _ _).symm
  refine ⟨fun w await window => ⟨fun past => ?_, fun early => ?_⟩, fun other => ?_,
    fun g receive gap => ⟨fun rx past => ?_, fun waits => ?_⟩, fun other => ?_,
    fun settle quietLine within => ?_, fun waits => ?_⟩
  · rw [exec_responseWindowExpiry, if_pos ((windowDue_iff s).mpr ⟨await, w, window, past⟩),
      windowExpires_eq window]
    rfl
  · rw [exec_responseWindowExpiry, if_neg]
    rw [windowDue_iff]
    rintro ⟨-, x, running, past⟩
    obtain rfl : w = x := Option.some.inj (window.symm.trans running)
    omega
  · rw [exec_responseWindowExpiry, if_neg fun due => other ((windowDue_iff s).mp due).1]
  · rw [exec_charGapExpiry, if_pos ((gapDue_iff s).mpr ⟨receive, rx, g, gap, past⟩), gapExpires_eq rx gap]
  · rw [exec_charGapExpiry, if_neg]
    rw [gapDue_iff]
    rintro ⟨-, rx, x, running, past⟩
    obtain rfl : g = x := Option.some.inj (gap.symm.trans running)
    rcases waits with inside | early
    · simp [rx] at inside
    · omega
  · rw [exec_charGapExpiry, if_neg fun due => other ((gapDue_iff s).mp due).1]
  · have due := (settleDue_iff s).mpr ⟨settle, reached.mp quietLine, (busyWithin_iff _).mpr within⟩
    rw [exec_settleEnd, if_pos due, settleEnds_eq quietLine.1]
  · rw [exec_settleEnd, if_neg]
    rw [settleDue_iff, ← reached]
    rintro ⟨settle, quietLine, -⟩
    rcases waits with other | busyLine
    · exact other settle
    · exact busyLine quietLine

end Sys2Proof.Machine
end

section
/-! Chapter 3 and R138: the closing guard reports the piece, and the walk goes on. -/

namespace Sys2Proof.Machine

/-! ## The report -/

/-- The state in which a report is applied: the engine is IDLE, with no piece and no busy timer (R138). -/
def State.reported (s : State) : State :=
  { s with line.engine := .idle, line.piece := none, line.busy := none }

theorem exec_closingGuardEnd_some {s : State} {p : Piece} {rep : Report}
    (piece : s.closingPiece = some (p, rep)) : exec .closingGuardEnd s = .next (reportPiece p rep s) := by
  show execClosingGuardEnd s = _
  rw [execClosingGuardEnd, piece]

theorem exec_closingGuardEnd_none {s : State} (none : s.closingPiece = .none) :
    exec .closingGuardEnd s = .next s := by
  show execClosingGuardEnd s = _
  rw [execClosingGuardEnd, none]

theorem reportPiece_running {s : State} (running : s.sched.ctrl = .running) (p : Piece) (rep : Report) :
    reportPiece p rep s = proceed p.work (applyReport p rep s.reported) := by
  have ctrl : (applyReport p rep s.reported).sched.ctrl = .running := by simp [State.reported, running]
  unfold reportPiece
  refine if_neg ?_
  show ¬ (applyReport p rep s.reported).sched.ctrl = .stopping
  rw [ctrl]
  decide

theorem drainEnd_eq {t : State} (piece : t.line.piece = none) (busy : t.line.busy = none)
    (rx : t.line.rx = none) :
    drainEnd t = { t with
      line.engine := .off, line.quiet := none, line.window := none, line.gap := none
      line.rxBuf := [], sched.ctrl := .config, sched.phase := .none, tb.armed := false } := by
  simp only [drainEnd, engineOff, piece, busy, rx]

theorem reportPiece_stopping {s : State} (stopping : s.sched.ctrl = .stopping) (rx : s.line.rx = none)
    (p : Piece) (rep : Report) :
    reportPiece p rep s = { applyReport p rep s.reported with
      line.engine := .off, line.quiet := none, line.window := none, line.gap := none
      line.rxBuf := [], sched.ctrl := .config, sched.phase := .none, tb.armed := false } := by
  have ctrl : (applyReport p rep s.reported).sched.ctrl = .stopping := by simp [State.reported, stopping]
  have drained := drainEnd_eq (t := applyReport p rep s.reported) (by simp [State.reported])
    (by simp [State.reported]) (by simp [State.reported, rx])
  unfold reportPiece
  exact (if_pos ctrl).trans drained

theorem applyReport_sync {p : Piece} {n : Word} (work : p.work = .sync n) (rep : Report) (s : State) :
    applyReport p rep s = applySyncReport rep s := by
  unfold applyReport
  simp only [work]

theorem applyReport_exchange {p : Piece} {i : Slot} {a k : BitVec 6} {first stale : Bool}
    {payload : List Byte} (work : p.work = .exchange i a k first stale payload) (rep : Report) (s : State) :
    applyReport p rep s = if p.discard then s else applyExchange i rep s := by
  unfold applyReport
  simp only [work]

theorem applyReport_attempt {p : Piece} {i : Slot} {a : BitVec 6} {service : BitVec 7}
    {payload : List Byte} (work : p.work = .attempt i a service payload) (rep : Report) (s : State) :
    applyReport p rep s = applyAttempt rep s := by
  unfold applyReport
  simp only [work]

theorem afterAttempt_none {s : State} (held : s.sched.held = none) : afterAttempt s = admission s := by
  unfold afterAttempt
  simp only [held]

theorem afterAttempt_some {s : State} {t : Time} (held : s.sched.held = some t) :
    afterAttempt s = takeHeld t s := by
  unfold afterAttempt
  simp only [held]

theorem applyReport_held (p : Piece) (rep : Report) (s : State) :
    (applyReport p rep s.reported).sched.held = s.sched.held := by simp [State.reported]

theorem applyReport_walkPos (p : Piece) (rep : Report) (s : State) :
    (applyReport p rep s.reported).sched.walkPos = s.sched.walkPos := by simp [State.reported]

/-! ## The walk -/

theorem walk_nil (pos : Nat) (s : State) : walk [] pos s = endWalk s := rfl

theorem walk_notDue {e : ListEntry} {s : State} (es : List ListEntry) (pos : Nat)
    (rests : ¬ s.sched.cycle.toNat % e.divisor.toNat = e.phase.toNat) :
    walk (e :: es) pos s = walk es (pos + 1) s := by
  rw [walk]
  exact if_pos (by simpa [ListEntry.due] using rests)

theorem walk_skipped {e : ListEntry} {s : State} (es : List ListEntry) (pos : Nat)
    (due : s.sched.cycle.toNat % e.divisor.toNat = e.phase.toNat)
    (skipped : (s.station e.slot).skipped = true) :
    walk (e :: es) pos s = walk es (pos + 1)
      (s.modifySummary fun m => { m with due := m.due + 1, skipped := m.skipped + 1 }) := by
  rw [walk]
  exact (if_neg (by simpa [ListEntry.due] using due)).trans (if_pos skipped)

theorem walk_called {e : ListEntry} {s : State} (es : List ListEntry) (pos : Nat)
    (due : s.sched.cycle.toNat % e.divisor.toNat = e.phase.toNat)
    (called : ¬ (s.station e.slot).skipped = true) :
    walk (e :: es) pos s
      = callEntry e.slot pos (s.modifySummary fun m => { m with due := m.due + 1 }) := by
  rw [walk]
  exact (if_neg (by simpa [ListEntry.due] using due)).trans (if_neg called)

theorem skipped_iff (r : Station) :
    r.skipped = true ↔ r.enabled = false ∨ (r.health = .lost ∧ r.probeCountdown ≠ 0) := by
  unfold Station.skipped Station.probeDue
  by_cases lost : r.health = .lost <;> cases r.enabled <;> simp [lost]

theorem callsFirst_eq (r : Station) : r.callsFirst = decide (r.health = .seeking ∨ r.health = .lost) := by
  rw [Bool.eq_iff_iff]
  simp [Station.callsFirst]

theorem reloadProbe_eq (r : Station) :
    r.reloadProbe = if r.health = .lost then { r with probeCountdown := r.probeInterval } else r := by
  simp [Station.reloadProbe]

theorem callWork_eq (s : State) (i : Slot) :
    s.callWork i = .exchange i (s.station i).address (s.station i).inLen
      (decide ((s.station i).health = .seeking ∨ (s.station i).health = .lost)) s.images.stale
      (if s.images.stale then []
        else (List.range (s.station i).outLen.toNat).map fun k =>
          Memory.read s.images.outBanks[s.images.live] ((s.station i).outOffset.toNat + k)) := by
  unfold State.callWork
  dsimp only
  rw [callsFirst_eq, readMany_eq_map]
  rfl

theorem callEntry_eq (i : Slot) (pos : Nat) (s : State) :
    callEntry i pos s = handOver (s.callWork i)
      (State.setStation { s with sched.walkPos := pos + 1 } i
        (if (s.station i).health = .lost then
          { s.station i with probeCountdown := (s.station i).probeInterval }
        else s.station i)) := by
  rw [← reloadProbe_eq]
  rfl

/-- Settles O52: the report by the kind of the work, and the walk entry by entry. -/
theorem closingGuardReportsAndTheWalkGoesOn : Obligations.ClosingGuardReportsAndTheWalkGoesOn := by
  unfold Obligations.ClosingGuardReportsAndTheWalkGoesOn
  refine ⟨fun s p rep => ?_, fun s pos => rfl, fun s pos => rfl, fun e es pos s => ?_⟩
  · intro quiet idle out drained guard piece report
    have reached : quiet ↔ s.line.quietReached s.line.guardTime.toNat = true := (quietReached_iff _ _).symm
    refine ⟨fun busyLine => ?_, fun quietLine within => ?_⟩
    · refine exec_closingGuardEnd_none (Option.eq_none_iff_forall_ne_some.mpr fun closing some => ?_)
      exact busyLine (reached.mpr ((closingPiece_eq_some_iff s closing.1 closing.2).mp some).2.1)
    have ends : out = .next (reportPiece p rep s) :=
      exec_closingGuardEnd_some ((closingPiece_eq_some_iff s p rep).mpr
        ⟨guard, reached.mp quietLine, (busyWithin_iff _).mpr within, piece, report⟩)
    have stops (stopping : s.sched.ctrl = .stopping) : out = .next (drained (applyReport p rep idle)) := by
      rw [ends, reportPiece_stopping stopping quietLine.1]
      rfl
    have runs (running : s.sched.ctrl = .running) :
        out = .next (proceed p.work (applyReport p rep idle)) := by
      rw [ends, reportPiece_running running]
      rfl
    refine ⟨fun n work => ?_, fun i a k first stale payload work => ?_,
      fun i a service payload work => ?_⟩
    · intro t
      have applied : applyReport p rep idle = t := applyReport_sync work rep idle
      refine ⟨fun running => ?_, fun stopping => ?_⟩
      · rw [runs running, applied, work]
        rfl
      · rw [stops stopping, applied]
    · intro t
      have applied : applyReport p rep idle = t := applyReport_exchange work rep idle
      have walkPos : t.sched.walkPos = s.sched.walkPos := applied ▸ applyReport_walkPos p rep s
      refine ⟨fun running => ?_, fun stopping => ?_⟩
      · rw [runs running, applied, work, ← walkPos]
        rfl
      · rw [stops stopping, applied]
    · intro t
      have applied : applyReport p rep idle = t := applyReport_attempt work rep idle
      have held : t.sched.held = s.sched.held := applied ▸ applyReport_held p rep s
      refine ⟨fun running free => ?_, fun e running waiting => ?_, fun stopping => ?_⟩
      · rw [runs running, applied, work]
        exact congrArg Host.Outcome.next (afterAttempt_none (held.trans free))
      · rw [runs running, applied, work]
        exact congrArg Host.Outcome.next (afterAttempt_some (held.trans waiting))
      · rw [stops stopping, applied]
  · intro r due skipped b first
    have skips : (s.station e.slot).skipped = true ↔ skipped := skipped_iff _
    refine ⟨walk_notDue es pos, fun isDue isSkipped => walk_skipped es pos isDue (skips.mpr isSkipped),
      fun isDue notSkipped => ?_⟩
    rw [walk_called es pos isDue fun isSkipped => notSkipped (skips.mp isSkipped), callEntry_eq,
      callWork_eq]
    rfl

end Sys2Proof.Machine
end

section
/-! Chapter 7: the line fault. -/

namespace Sys2Proof.Machine

/-! ## The busy limit and the line fault -/

theorem exec_busyLimitExpiry (s : State) :
    exec .busyLimitExpiry s = .next (if s.busyDue then lineFault .busy s else s) := rfl

/-- Of a state, what a line fault makes of its run (R153). -/
def State.faulted (s : State) : State :=
  { s with sched.ctrl := .faulted, sched.phase := .none, sched.held := none, tb.armed := false }

theorem notify_eq_events (c : EventCode) (b : Byte) (n d : Word) (s : State) :
    notify c b n d s = { s with events := (notify c b n d s).events } := by
  unfold notify
  split <;> rfl

theorem failInFlight_eq_reqs (s : State) : failInFlight s = { s with reqs := (failInFlight s).reqs } := by
  unfold failInFlight
  split <;> rfl

theorem failInFlight_none {s : State} (resting : s.requestInFlight = none) : failInFlight s = s := by
  unfold failInFlight
  simp only [resting]

theorem failInFlight_some {s : State} {r : Request} (flying : s.requestInFlight = some r) :
    failInFlight s = completeHead (r.completion .lineFault s.tb.time s.sched.cycle) s := by
  unfold failInFlight
  simp only [flying]

theorem requestInFlight_none {s : State} (resting : ∀ r q, s.reqs.queue = r :: q → r.inFlight = false) :
    s.requestInFlight = none := by
  unfold State.requestInFlight
  split
  case h_1 => rfl
  case h_2 r q queue => exact if_neg (by simp [resting r q queue])

/-- The state in which the request in flight completes LINE_FAULT: the engine is off and the notice posted. -/
def State.faultNoted (c : FaultCause) (s : State) : State :=
  notify .lineFault 0xFF s.sched.cycle c.detail (engineOff s)

theorem lineFault_eq_faulted (c : FaultCause) (s : State) :
    lineFault c s = (failInFlight (s.faultNoted c)).faulted := rfl

theorem faultNoted_eq (c : FaultCause) (s : State) :
    s.faultNoted c = { engineOff s with
      events := (notify .lineFault 0xFF s.sched.cycle c.detail s).events } := by
  have events : (s.faultNoted c).events = (notify .lineFault 0xFF s.sched.cycle c.detail s).events :=
    notify_events_congr (s := s) (t := engineOff s) rfl rfl _ _ _ _
  rw [← events]
  exact notify_eq_events _ _ _ _ _

theorem lineFault_reqs (c : FaultCause) (s : State) :
    (lineFault c s).reqs = (failInFlight (s.faultNoted c)).reqs := rfl

theorem lineFault_eq (c : FaultCause) (s : State) :
    lineFault c s = { s with
      line := (engineOff s).line
      events := (notify .lineFault 0xFF s.sched.cycle c.detail s).events
      reqs := (lineFault c s).reqs, sched.ctrl := .faulted, sched.phase := .none, sched.held := none
      tb.armed := false } := by
  have failed : failInFlight (s.faultNoted c) = { engineOff s with
      events := (notify .lineFault 0xFF s.sched.cycle c.detail s).events
      reqs := (lineFault c s).reqs } := by
    rw [lineFault_reqs]
    exact (failInFlight_eq_reqs _).trans
      (congrArg (fun n : State => { n with reqs := (failInFlight (s.faultNoted c)).reqs }) (faultNoted_eq c s))
  exact (lineFault_eq_faulted c s).trans (congrArg State.faulted failed)

/-- Settles O53: the busy limit, and the fault field by field. -/
theorem lineFaultEndsTheRun : Obligations.LineFaultEndsTheRun := by
  unfold Obligations.LineFaultEndsTheRun
  refine ⟨fun s b waits busy => ⟨fun past => ?_, fun early => ?_⟩, fun s noGuard noSettle => ?_, rfl, rfl,
    fun c s => ⟨lineFault c s, rfl, ?_⟩⟩
  · rw [exec_busyLimitExpiry, if_pos ((busyDue_iff s).mpr ⟨waits, b, busy, past⟩)]
  · rw [exec_busyLimitExpiry, if_neg]
    rw [busyDue_iff]
    rintro ⟨-, x, running, past⟩
    obtain rfl : b = x := Option.some.inj (busy.symm.trans running)
    omega
  · rw [exec_busyLimitExpiry, if_neg fun due => ((busyDue_iff s).mp due).1.elim noGuard noSettle]
  · have line : (lineFault c s).line = (engineOff s).line :=
      (congrArg State.line (lineFault_eq c s)).trans rfl
    have engine : (lineFault c s).line.engine = .off := congrArg LineEngine.engine line
    have ctrl : (lineFault c s).sched.ctrl = .faulted :=
      (congrArg (fun t : State => t.sched.ctrl) (lineFault_eq c s)).trans rfl
    have reqs : (s.faultNoted c).reqs = s.reqs :=
      (congrArg State.reqs (faultNoted_eq c s)).trans rfl
    have tb : (s.faultNoted c).tb = s.tb :=
      (congrArg State.tb (faultNoted_eq c s)).trans rfl
    have sched : (s.faultNoted c).sched = s.sched :=
      (congrArg State.sched (faultNoted_eq c s)).trans rfl
    have eq := lineFault_eq c s
    rw [← line] at eq
    refine ⟨eq, line, by simp [State.de, engine], txd_idle (by simp [engine]), ?_, fun resting => ?_,
      fun r q queue flying => ?_⟩
    · rw [getLsbD_intStatus_fault, ctrl]
      rfl
    · rw [lineFault_reqs, failInFlight_none (requestInFlight_none (by rw [reqs]; exact resting)), reqs]
    · have queueKept : (s.faultNoted c).reqs.queue = r :: q := by rw [reqs]; exact queue
      rw [lineFault_reqs, failInFlight_some (requestInFlight_cons queueKept flying),
        completeHead_cons queueKept, tb, sched]
      dsimp only
      rw [reqs]
      rfl

end Sys2Proof.Machine
end

section
/-! Chapters 2 to 4: the outcome of an exchange in the FILL bank, the station record and the events. -/

namespace Sys2Proof.Machine

/-! ## The FILL bank -/

theorem writeOutcome_images (i : Slot) (code : SlotCode) (len : Byte) (flags : BitVec 4) (time : Time)
    (payload : List Byte) (s : State) :
    let b := s.images.inBanks[s.images.fill]
    (writeOutcome i code len flags time payload s).images = { s.images with
      inBanks := s.images.inBanks.set s.images.fill { b with
        data := if code == .fresh && code.overwrites b.slots[i].status then
            Memory.writeAll b.data (s.station i).inOffset.toNat payload
          else b.data
        slots := b.slots.set i (b.slots[i].take code len flags time s.sched.cycle)
        summary := b.summary.countClass code } } := rfl

theorem overwrites_fresh (old : SlotCode) : SlotCode.fresh.overwrites old = true := by cases old <;> rfl

theorem overwrites_notReady (old : SlotCode) :
    SlotCode.notReady.overwrites old = decide (old ≠ .fresh) := by cases old <;> rfl

/-- The class of a failed exchange. -/
def SlotCode.failed (timedOut : Bool) : SlotCode := if timedOut then .missed else .errored

theorem overwrites_failed (timedOut : Bool) (old : SlotCode) :
    (SlotCode.failed timedOut).overwrites old = decide (old = .notCalled) := by
  cases timedOut <;> cases old <;> rfl

theorem take_fresh (r : SlotStatus) (len : Byte) (flags : BitVec 4) (time : Time) (cycle : Word) :
    r.take .fresh len flags time cycle =
      { status := .fresh, replyLen := len, flags := flags, callCount := r.callCount + 1, replyTime := time
        cycle := cycle } :=
  if_pos (overwrites_fresh _)

theorem take_notReady (r : SlotStatus) (len : Byte) (flags : BitVec 4) (time : Time) (cycle : Word) :
    r.take .notReady len flags time cycle =
      if r.status = .fresh then { r with callCount := r.callCount + 1 }
      else
        { status := .notReady, replyLen := len, flags := flags, callCount := r.callCount + 1
          replyTime := time, cycle := cycle } := by
  rw [SlotStatus.take, overwrites_notReady]
  by_cases fresh : r.status = .fresh <;> simp [fresh]

theorem take_failed (timedOut : Bool) (r : SlotStatus) (time : Time) (cycle : Word) :
    r.take (SlotCode.failed timedOut) 0 0 time cycle =
      if r.status = .notCalled then
        { status := if timedOut then .missed else .errored, replyLen := 0, flags := 0
          callCount := r.callCount + 1, replyTime := time, cycle := cycle }
      else { r with callCount := r.callCount + 1 } := by
  rw [SlotStatus.take, overwrites_failed]
  by_cases new : r.status = .notCalled <;> simp [new, SlotCode.failed]

theorem countClass_failed (timedOut : Bool) (m : CycleSummary) :
    m.countClass (SlotCode.failed timedOut)
      = if timedOut then { m with missed := m.missed + 1 } else { m with errored := m.errored + 1 } := by
  cases timedOut <;> rfl

theorem writeOutcome_failed_images (i : Slot) (timedOut : Bool) (time : Time) (s : State) :
    let b := s.images.inBanks[s.images.fill]
    (writeOutcome i (SlotCode.failed timedOut) 0 0 time [] s).images = { s.images with
      inBanks := s.images.inBanks.set s.images.fill { b with
        slots := b.slots.set i
          (if b.slots[i].status = .notCalled then
            { status := if timedOut then .missed else .errored, replyLen := 0, flags := 0
              callCount := b.slots[i].callCount + 1, replyTime := time, cycle := s.sched.cycle }
          else { b.slots[i] with callCount := b.slots[i].callCount + 1 })
        summary :=
          if timedOut then { b.summary with missed := b.summary.missed + 1 }
          else { b.summary with errored := b.summary.errored + 1 } } } := by
  intro b
  have kept : (SlotCode.failed timedOut == .fresh
      && (SlotCode.failed timedOut).overwrites b.slots[i].status) = false := by
    cases timedOut <;> rfl
  rw [writeOutcome_images, ← take_failed, ← countClass_failed]
  dsimp only
  rw [kept]
  rfl

theorem writeOutcome_fresh_images (i : Slot) (len : Byte) (flags : BitVec 4) (time : Time)
    (payload : List Byte) (s : State) :
    let b := s.images.inBanks[s.images.fill]
    (writeOutcome i .fresh len flags time payload s).images = { s.images with
      inBanks := s.images.inBanks.set s.images.fill { b with
        data := Memory.writeAll b.data (s.station i).inOffset.toNat payload
        slots := b.slots.set i
          { status := .fresh, replyLen := len, flags := flags, callCount := b.slots[i].callCount + 1
            replyTime := time, cycle := s.sched.cycle }
        summary.fresh := b.summary.fresh + 1 } } := by
  intro b
  rw [writeOutcome_images, ← take_fresh]
  dsimp only
  rw [overwrites_fresh]
  rfl

theorem writeOutcome_notReady_images (i : Slot) (len : Byte) (flags : BitVec 4) (time : Time)
    (payload : List Byte) (s : State) :
    let b := s.images.inBanks[s.images.fill]
    (writeOutcome i .notReady len flags time payload s).images = { s.images with
      inBanks := s.images.inBanks.set s.images.fill { b with
        slots := b.slots.set i
          (if b.slots[i].status = .fresh then { b.slots[i] with callCount := b.slots[i].callCount + 1 }
          else
            { status := .notReady, replyLen := len, flags := flags, callCount := b.slots[i].callCount + 1
              replyTime := time, cycle := s.sched.cycle })
        summary.notReady := b.summary.notReady + 1 } } := by
  intro b
  rw [writeOutcome_images, ← take_notReady]
  rfl

/-! ## The station record and its events -/

theorem notifyStation_events_congr {s t : State} (events : t.events = s.events)
    (time : t.tb.time = s.tb.time) (cycle : t.sched.cycle = s.sched.cycle) (c : EventCode) (i : Slot)
    (d : Word) :
    (notifyStation c i d t).events = (notify c (BitVec.ofNat 8 i.val) s.sched.cycle d s).events := by
  unfold notifyStation
  rw [cycle]
  exact notify_events_congr events time _ _ _ _

theorem afterFailure_eq (r : Station) (timedOut : Bool) :
    r.afterFailure timedOut = { r with
      consecutiveMiss := r.nextMiss
      missed := if timedOut = true ∧ r.missed ≠ 0xFFFF#16 then r.missed + 1 else r.missed
      errored := if timedOut = false ∧ r.errored ≠ 0xFFFF#16 then r.errored + 1 else r.errored } := by
  cases timedOut <;> simp [Station.afterFailure, satIncWord]

section Failure
variable {i : Slot} {timedOut : Bool} {s : State}

theorem applyFailure_lost (last : (s.station i).nextMiss = (s.station i).missLimit)
    (fresh : (s.station i).health ≠ .lost) :
    applyFailure i timedOut s = notifyStation .stationLost i 0
      (s.setStation i { (s.station i).afterFailure timedOut with
        health := .lost, probeCountdown := (s.station i).probeInterval }) :=
  if_pos ⟨last, fresh⟩

theorem applyFailure_suspect (more : (s.station i).nextMiss ≠ (s.station i).missLimit)
    (active : (s.station i).health = .active) :
    applyFailure i timedOut s = notifyStation .stationSuspect i 0
      (s.setStation i { (s.station i).afterFailure timedOut with health := .suspect }) :=
  (if_neg fun last => more last.1).trans (if_pos ⟨more, active⟩)

theorem applyFailure_same
    (lost : (s.station i).nextMiss = (s.station i).missLimit → (s.station i).health = .lost)
    (active : (s.station i).nextMiss ≠ (s.station i).missLimit → (s.station i).health ≠ .active) :
    applyFailure i timedOut s = s.setStation i ((s.station i).afterFailure timedOut) :=
  (if_neg fun last => last.2 (lost last.1)).trans (if_neg fun first => active first.1 first.2)

theorem applyFailure_stations :
    ∃ q, (applyFailure i timedOut s).stations = s.stations.set i q := by
  unfold applyFailure
  dsimp only
  split
  · exact ⟨_, (notifyStation_frame _ _ _ _).2.2.2.2.2.2.2.1⟩
  · split
    · exact ⟨_, (notifyStation_frame _ _ _ _).2.2.2.2.2.2.2.1⟩
    · exact ⟨_, rfl⟩

end Failure

theorem applyGoodReply_stations (i : Slot) (flags : BitVec 4) (time : Time) (s : State) :
    (applyGoodReply i flags time s).stations
      = s.stations.set i ((s.station i).afterGood flags time s.sched.cycle) := by
  unfold applyGoodReply
  dsimp only
  split <;> simp [State.setStation]

theorem postGoodHealth_eq (i : Slot) (before : Health) (s : State) :
    postGoodHealth i before s =
      if before = .seeking then notify .stationJoined (BitVec.ofNat 8 i.val) s.sched.cycle 0 s
      else if before = .lost then notify .stationRecovered (BitVec.ofNat 8 i.val) s.sched.cycle 0 s
      else s := by
  cases before <;> rfl

theorem postGoodHealth_events_congr {s t : State} (events : t.events = s.events)
    (time : t.tb.time = s.tb.time) (cycle : t.sched.cycle = s.sched.cycle) (i : Slot) (before : Health) :
    (postGoodHealth i before t).events = (postGoodHealth i before s).events := by
  cases before with
  | seeking => exact notifyStation_events_congr events time cycle _ _ _
  | lost => exact notifyStation_events_congr events time cycle _ _ _
  | offline => exact events
  | active => exact events
  | suspect => exact events

theorem zeroExtend_flags (flags : BitVec 4) : flags.zeroExtend 16 = 0#12 ++ flags := by
  exact BitVec.setWidth_eq_append (by decide)

/-- The events of a good reply, from the state `u` before the outcome was written. -/
theorem applyGoodReply_events {s u : State} (events : s.events = u.events) (time : s.tb.time = u.tb.time)
    (cycle : s.sched.cycle = u.sched.cycle) (i : Slot) (flags : BitVec 4) (replyTime : Time) :
    (applyGoodReply i flags replyTime s).events =
      (if flags.getLsbD 2 = true ∧ (s.station i).lastAlarm = false then
        notify .stationAlarm (BitVec.ofNat 8 i.val) u.sched.cycle (0#12 ++ flags)
          (postGoodHealth i (s.station i).health u)
      else postGoodHealth i (s.station i).health u).events := by
  have health := postGoodHealth_events_congr (s := u)
    (t := s.setStation i ((s.station i).afterGood flags replyTime s.sched.cycle)) events time cycle i
    (s.station i).health
  unfold applyGoodReply
  dsimp only
  by_cases alarm : flags.getLsbD 2 = true ∧ (s.station i).lastAlarm = false
  · rw [if_pos alarm, if_pos (by simpa [flagAlarm] using alarm), zeroExtend_flags]
    refine (notifyStation_events_congr health ?_ ?_ _ _ _).trans ?_
    · simp [time]
    · simp [cycle]
    · rw [(postGoodHealth_frame i (s.station i).health u).2.2.2.2.2.2.2.2.2.1]
  · rw [if_neg alarm, if_neg (by simpa [flagAlarm] using alarm)]
    exact health

/-! ## The exchange as a whole -/

/-- A state that differs in its stations, images and events alone. -/
theorem eq_of_applied {s t : State} (pending : t.pending = s.pending) (freeCount : t.freeCount = s.freeCount)
    (resetLow : t.resetLow = s.resetLow) (clear : t.clear = s.clear) (port : t.port = s.port)
    (tb : t.tb = s.tb) (line : t.line = s.line) (lists : t.lists = s.lists) (sched : t.sched = s.sched)
    (reqs : t.reqs = s.reqs) :
    t = { s with images := t.images, stations := t.stations, events := t.events } := by
  cases t
  cases s
  simp_all

theorem station_of_stations {s t : State} {i : Slot} {q : Station}
    (stations : t.stations = s.stations.set i q) : t.station i = q := by
  have same := station_congr (t := s.setStation i q) stations i
  rw [same, station_setStation, if_pos rfl]

theorem applyExchange_eq {s : State} {i : Slot} {rep : Report} {q : Station}
    (stations : (applyExchange i rep s).stations = s.stations.set i q) :
    applyExchange i rep s = { s with
      images := (applyExchange i rep s).images
      stations := s.stations.set i ((applyExchange i rep s).station i)
      events := (applyExchange i rep s).events } := by
  rw [station_of_stations stations, ← stations]
  obtain ⟨pending, freeCount, resetLow, clear, port, tb, line, lists, sched, reqs⟩ :=
    applyExchange_frame i rep s
  exact eq_of_applied pending freeCount resetLow clear port tb line lists sched reqs

/-- Settles O54: a failure by the three cases of the record, a good reply by its flags. -/
theorem exchangeOutcomesAreApplied : Obligations.ExchangeOutcomesAreApplied := by
  unfold Obligations.ExchangeOutcomesAreApplied
  intro s i o time t r b slot m bank notice joined frame miss failed
  have failure (timedOut : Bool)
      (applied : t = applyFailure i timedOut (writeOutcome i (SlotCode.failed timedOut) 0 0 time [] s)) :
      failed timedOut := by
    have record := afterFailure_eq r timedOut
    have same : r = (writeOutcome i (SlotCode.failed timedOut) 0 0 time [] s).station i := rfl
    refine ⟨?_, fun last fresh => ?_, fun more active => ?_, fun lost active => ?_, ?_⟩
    · obtain ⟨q, stations⟩ := applyFailure_stations (i := i) (timedOut := timedOut)
        (s := writeOutcome i (SlotCode.failed timedOut) 0 0 time [] s)
      rw [← applied] at stations
      exact applyExchange_eq stations
    · have lost := applied.trans (applyFailure_lost last fresh)
      rw [lost]
      refine ⟨?_, notifyStation_events_congr (s := s) (by rfl) (by rfl) (by rfl) _ _ _⟩
      rw [station_of_stations (s := s) (notifyStation_frame _ _ _ _).2.2.2.2.2.2.2.1, ← same, record]
      rfl
    · have suspect := applied.trans (applyFailure_suspect more active)
      rw [suspect]
      refine ⟨?_, notifyStation_events_congr (s := s) (by rfl) (by rfl) (by rfl) _ _ _⟩
      rw [station_of_stations (s := s) (notifyStation_frame _ _ _ _).2.2.2.2.2.2.2.1, ← same, record]
      rfl
    · have kept := applied.trans (applyFailure_same lost active)
      rw [kept]
      refine ⟨?_, rfl⟩
      rw [station_setStation, if_pos rfl, ← same, record]
      rfl
    · have images : t.images = (writeOutcome i (SlotCode.failed timedOut) 0 0 time [] s).images := by
        rw [applied]
        simp
      exact images.trans (writeOutcome_failed_images i timedOut time s)
  refine ⟨fun len flags payload good => ?_, ?_, ?_, ?_⟩
  · subst good
    let w := writeOutcome i (if flagReady flags then .fresh else .notReady) len flags time payload s
    have applied : t = applyGoodReply i flags time w := rfl
    have stations : t.stations = s.stations.set i (r.afterGood flags time s.sched.cycle) :=
      applyGoodReply_stations i flags time w
    have images : t.images
        = (writeOutcome i (if flagReady flags then .fresh else .notReady) len flags time payload s).images := by
      rw [applied]
      simp [w]
    have health : joined = postGoodHealth i r.health s := (postGoodHealth_eq i r.health s).symm
    refine ⟨applyExchange_eq stations, station_of_stations stations, ?_, fun ready => ?_, fun waits => ?_⟩
    · rw [health]
      exact applyGoodReply_events (s := w) (u := s) rfl rfl rfl i flags time
    · rw [if_pos (by simpa [flagReady] using ready)] at images
      exact images.trans (writeOutcome_fresh_images i len flags time payload s)
    · rw [if_neg (by simpa [flagReady] using waits)] at images
      exact images.trans (writeOutcome_notReady_images i len flags time payload s)
  · rintro rfl
    exact failure true rfl
  · rintro rfl
    exact failure false rfl
  · rintro e rfl
    exact failure false rfl

end Sys2Proof.Machine
end
